-- ==== Sys2Proof/Word.lean ====
section
/-! DEFINITION. The two widths of the machine: a byte of 8 bits and a word (address) of 16 bits (R3, R5). -/

namespace Sys2Proof

/-- A byte, 8 bits: registers A, X, Y, S and every memory cell (R3, R40). Bit 7 is the most significant (R5). -/
abbrev Byte := BitVec 8

/-- A word, 16 bits: the program counter and every address (R3, R5). -/
abbrev Word := BitVec 16

end Sys2Proof
end

