-- ==== Sys2Proof/Config.lean ====
section
/-! DEFINITION. What the spec leaves open: the parameters of R4 as plain data, and the free values (`any` of R7). -/

namespace Sys2Proof

/-- The class `MEMMAP` gives an address (R43). -/
inductive MemClass where
  | ram
  | rom
  | device
  | unmapped
  deriving DecidableEq, Repr

/-- One region of `MEMMAP`: the addresses `base`, ..., `base + size - 1` have class `cls` (R43, R52). -/
structure Region where
  base : Nat
  size : Nat
  cls  : MemClass
  deriving DecidableEq, Repr

/-- The registers and flags a platform may promise after reset (`RESET_STATE`, R4): all of them but I and PC,
which R260 fixes. -/
structure ResetValues where
  a  : Byte
  x  : Byte
  y  : Byte
  sp : Byte
  c  : Bool
  z  : Bool
  d  : Bool
  v  : Bool
  n  : Bool
  deriving DecidableEq, Repr

/-- `RESET_STATE` (R4, R260, D19): what a reset leaves in the registers that it does not fix. -/
inductive ResetState where
  /-- The default: A, X, Y, S, C, Z, D, V, N are `any`. -/
  | unconstrained
  /-- The platform promises these values. -/
  | given (r : ResetValues)
  /-- R260's alternative at a warm reset: A, X, Y, C, Z, D, V, N are kept and S is `any`. -/
  | keep
  deriving DecidableEq, Repr

/-- `DECIMAL_MODEL` (R4, D6): what ADC and SBC produce when D = 1. -/
inductive DecimalModel where
  /-- The default: A and C exact for valid BCD operands, everything else `any` (R123, R124). -/
  | validBcdOnly
  /-- The reference algorithm of U3. The spec calls it information, not normative. -/
  | nmos
  deriving DecidableEq, Repr

/-- `IRQ_LATENCY_MODEL` (R4, R229, D18): whether a change of I by CLI, SEI or PLP governs IRQ recognition one
instruction late. -/
inductive IrqLatency where
  /-- The default: the new I is in force at the very next boundary. -/
  | none
  /-- The delay R229 reports of the original part. -/
  | oneInstruction
  deriving DecidableEq, Repr

/-- `ILLEGAL_OPCODE` (R4, D13, U1): what an unassigned opcode byte does. The spec describes `fault` alone and lets a
model choose otherwise; the second value is the model's (DESIGN CHOICE, log 16). -/
inductive IllegalOpcode where
  /-- The default: the fault `IllegalOpcode(opcode, PC)` (R79). -/
  | fault
  /-- The byte has some effect of which nothing is known: every register and flag is `any`, and any cells may have been
  stored to. It is no NOP, which U1 forbids. -/
  | unconstrained
  deriving DecidableEq, Repr

/-- The parameters of R4 that the machine itself depends on. `HALT` belongs to the harness (D26) and is no field. -/
structure Config where
  vecNmi     : Word
  vecReset   : Word
  vecIrq     : Word
  memMap     : List Region
  resetState : ResetState
  decimalModel : DecimalModel
  irqLatency : IrqLatency
  illegalOpcode : IllegalOpcode
  deriving DecidableEq, Repr

/-- The defaults of R4 (PRESUMED vectors, log 12; every address RAM, log 9). -/
def Config.default : Config where
  vecNmi     := 0xFFFA
  vecReset   := 0xFFFC
  vecIrq     := 0xFFFE
  memMap     := []
  resetState := .unconstrained
  decimalModel := .validBcdOnly
  irqLatency := .none
  illegalOpcode := .fault

/-- Which memory read of one step it is (R53 lists them, R62 the fetches). It keeps the free values of two
reads in one step apart. -/
inductive Access where
  | opcode
  | operand1
  | operand2
  | pointerLow
  | pointerHigh
  | data
  | pull1
  | pull2
  | pull3
  | vectorLow
  | vectorHigh
  deriving DecidableEq, Repr

/-- Which open byte of one step is meant. -/
inductive OpenByte where
  | read (k : Access)
  | regA
  | regX
  | regY
  | regS
  | pcLow
  | pcHigh
  deriving DecidableEq, Repr

/-- Which open flag of one step is meant. -/
inductive OpenBit where
  | flagC
  | flagZ
  | flagI
  | flagD
  | flagV
  | flagN
  deriving DecidableEq, Repr

/-- The free byte `any` (R7) at place `k` of the draw numbered by the state's counter. No body: nothing can be
proved of its value (log 5). -/
opaque Config.anyByte : Nat → OpenByte → Byte

/-- The free bit `any` (R7), as `Config.anyByte` (log 5). -/
opaque Config.anyBit : Nat → OpenBit → Bool

/-- The stores, in order, of an unassigned opcode byte whose effect is unknown, as `Config.anyByte` (logs 5, 16). -/
opaque Config.anyStores : Nat → List (Word × Byte)

end Sys2Proof
end

