-- ==== Sys2Proof/Machine/Bits.lean ====
section
/-! DEFINITION. Byte order, extension and single bits (R5, R42): the helpers the decoder and the machine share. -/

namespace Sys2Proof.Machine

/-- `lo(w)`, bits 7..0 (R5). -/
def lo (w : Word) : Byte := w.setWidth 8

/-- `hi(w)`, bits 15..8 (R5). -/
def hi (w : Word) : Byte := (w >>> 8).setWidth 8

/-- `{h, l}`, the word `h * 256 + l` (R5). -/
def word (h l : Byte) : Word := h ++ l

/-- `zext_16(b)` (R5). -/
def zext16 (b : Byte) : Word := b.setWidth 16

/-- `sext_16(b)` (R5). -/
def sext16 (b : Byte) : Word := b.signExtend 16

/-- The number 0 or 1 that a flag is in arithmetic (R5). -/
def bit (b : Bool) : Nat := if b then 1 else 0

end Sys2Proof.Machine
end

