-- ==== Sys2Proof/Machine/State.lean ====
section
/-! DEFINITION. The machine's state (10_state.md section 1), the reasons a step can stop, and the state after reset. -/

namespace Sys2Proof.Machine

/-- What the environment presents at one instruction boundary (R27, R222, R223). -/
structure BoundaryInputs where
  /-- The level of `irq_line`. -/
  irq : Bool
  /-- A falling edge came on the NMI input since the last boundary. -/
  nmiEdge : Bool
  /-- The level of `reset_request`. -/
  reset : Bool
  deriving DecidableEq, Repr

/-- The state of the machine: what `10_state.md` section 1 lists, the inputs of R27, the parameters of R4, and two
fields of the model's own (`polledI`, `draws`). -/
structure State where
  /-- `A`, the accumulator (R10). -/
  a : Byte
  /-- `X`, an index register (R11). -/
  x : Byte
  /-- `Y`, an index register (R12). -/
  y : Byte
  /-- `S`, the stack pointer; the stack address is `$0100 + S` (R14). -/
  sp : Byte
  /-- `PC`; at a boundary, the address of the next opcode byte (R13). -/
  pc : Word
  /-- Carry/Borrow (R16). -/
  c : Bool
  /-- Zero (R17). -/
  z : Bool
  /-- Interrupt Disable (R18). -/
  i : Bool
  /-- Decimal Mode (R19). -/
  d : Bool
  /-- Overflow (R21). -/
  v : Bool
  /-- Negative (R22). -/
  n : Bool
  /-- `Mem` (R28). -/
  mem : Memory
  /-- `nmi_pending`, hidden state (R27). -/
  nmiPending : Bool
  /-- `irq_line`, an input (R27). -/
  irqLine : Bool
  /-- `reset_request`, an input (R27). -/
  resetRequest : Bool
  /-- The environment's choices for the coming boundaries, the next one first (R223; DESIGN CHOICE, log 13). -/
  env : List BoundaryInputs
  /-- The parameters of R4. Configuration, which no step changes (DESIGN CHOICE, log 8). -/
  cfg : Config
  /-- The model's own: the I that governs the next boundary where R229's delay is modelled (log 15). -/
  polledI : Option Bool
  /-- The model's own: the number of the next draw of free values (log 5). -/
  draws : Nat
  deriving DecidableEq, Repr

/-- Why a step stops the machine. -/
inductive Fault where
  /-- `IllegalOpcode(opcode, address)`: raised by `step` when the byte at PC is one of the 105 unassigned opcodes
  and `ILLEGAL_OPCODE` is `fault` (R79, D13, U1). Safe: the original part goes on, and the spec says nothing is provable past it. -/
  | illegalOpcode (opcode : Byte) (address : Word)
  deriving DecidableEq, Repr

/-- Why the model declines a step. -/
inductive Refusal where
  /-- An instruction with no meaning yet, raised by `exec`'s arm of that name. Safe. No arm raises it now: every
  instruction has its meaning. -/
  | notModelled (mnemonic : String)
  deriving DecidableEq, Repr

/-- The machine right after reset (R29, R260). The spec gives I = 1, `nmi_pending` = 0 and PC = `MemRead(VEC_RESET, 2)`.
A, X, Y, S, C, Z, D, V, N and the memory have no value in the spec; the zeros here are DESIGN CHOICES, unsafe
(logs 1, 2, 4), and so are the inputs (log 13). -/
def State.reset : State where
  a := 0
  x := 0
  y := 0
  sp := 0
  pc := word (Memory.read [] (Config.default.vecReset + 1).toNat) (Memory.read [] Config.default.vecReset.toNat)
  c := false
  z := false
  i := true
  d := false
  v := false
  n := false
  mem := []
  nmiPending := false
  irqLine := false
  resetRequest := false
  env := []
  cfg := Config.default
  polledI := none
  draws := 0

end Sys2Proof.Machine
end

