-- ==== Sys2Proof/Machine/Flags.lean ====
section
/-! DEFINITION. Flag updates and the arithmetic that computes flags: SetNZ, the image of P, the binary adder, BCD, the
compares, the shifts. -/

namespace Sys2Proof.Machine

/-- `SetNZ(v)` (R24). -/
def State.setNZ (v : Byte) (s : State) : State := { s with z := decide (v = 0), n := v.getLsbD 7 }

/-- `PImage(b)`: the byte `N V 1 b D I Z C` (R23). -/
def State.pImage (b : Bool) (s : State) : Byte :=
  BitVec.ofNat 8 (bit s.n * 128 + bit s.v * 64 + 32 + bit b * 16 + bit s.d * 8 + bit s.i * 4 + bit s.z * 2 + bit s.c)

/-- `SetP(v)`: load the six stored flags; bits 5 and 4 are discarded (R23). -/
def State.setP (v : Byte) (s : State) : State :=
  { s with n := v.getLsbD 7, v := v.getLsbD 6, d := v.getLsbD 3, i := v.getLsbD 2, z := v.getLsbD 1, c := v.getLsbD 0 }

/-- Where R229's delay is modelled, the I before the instruction governs the next boundary (log 15). -/
def State.holdPolledI (old : Bool) (s : State) : State :=
  { s with polledI := match s.cfg.irqLatency with
                      | .none => none
                      | .oneInstruction => some old }

/-- The new accumulator and flags of ADC and SBC. -/
structure AluResult where
  a : Byte
  c : Bool
  z : Bool
  v : Bool
  n : Bool
  deriving DecidableEq, Repr

/-- Write an adder's result into A, C, Z, V, N. -/
def State.setAlu (r : AluResult) (s : State) : State := { s with a := r.a, c := r.c, z := r.z, v := r.v, n := r.n }

/-- `AddBin(a, m, c)` with SetNZ of its result (R122, R120). -/
def addBin (a m : Byte) (c : Bool) : AluResult :=
  let sum := a.toNat + m.toNat + bit c
  let r : Byte := BitVec.ofNat 8 sum
  { a := r, c := decide (256 ≤ sum), z := decide (r = 0), v := ((a ^^^ r) &&& (m ^^^ r)).getLsbD 7, n := r.getLsbD 7 }

/-- `b[7:4]` as a number (R5). -/
def highNibble (b : Byte) : Nat := b.toNat / 16

/-- `b[3:0]` as a number (R5). -/
def lowNibble (b : Byte) : Nat := b.toNat % 16

/-- `valid(b)`: both nibbles are decimal digits (R125). -/
def bcdValid (b : Byte) : Bool := decide (highNibble b ≤ 9) && decide (lowNibble b ≤ 9)

/-- `dec(b)` (R125). -/
def bcdValue (b : Byte) : Nat := 10 * highNibble b + lowNibble b

/-- `bcd(n)`, for `n` in 0..99 (R125). -/
def toBcd (n : Nat) : Byte := BitVec.ofNat 8 (n / 10 * 16 + n % 10)

/-- A result with every part open: A, C, Z, V, N are `any` (R123, R124). `k` numbers the draw. -/
def aluAny (k : Nat) : AluResult where
  a := Config.anyByte k .regA
  c := Config.anyBit k .flagC
  z := Config.anyBit k .flagZ
  v := Config.anyBit k .flagV
  n := Config.anyBit k .flagN

/-- Decimal ADC under `valid_bcd_only` (R123): A and C exact for valid operands, N, V, Z `any`. -/
def adcValidBcd (k : Nat) (a m : Byte) (c : Bool) : AluResult :=
  if bcdValid a && bcdValid m then
    let t := bcdValue a + bcdValue m + bit c
    { aluAny k with a := toBcd (t % 100), c := decide (100 ≤ t) }
  else aluAny k

/-- Decimal SBC under `valid_bcd_only` (R124): `t = dec(A) - dec(m) - (1 - C)`, and 100 is added where it is negative. -/
def sbcValidBcd (k : Nat) (a m : Byte) (c : Bool) : AluResult :=
  if bcdValid a && bcdValid m then
    let t : Int := (bcdValue a : Int) - (bcdValue m : Int) - (1 - (bit c : Int))
    if 0 ≤ t then { aluAny k with a := toBcd t.toNat, c := true }
    else { aluAny k with a := toBcd (t + 100).toNat, c := false }
  else aluAny k

/-- Decimal ADC of the reference algorithm (U3; PRESUMED, log 7). -/
def adcNmos (a m : Byte) (c : Bool) : AluResult :=
  let al0 := lowNibble a + lowNibble m + bit c
  let al := if 10 ≤ al0 then (al0 + 6) % 16 + 16 else al0
  let s0 := highNibble a * 16 + highNibble m * 16 + al
  let r0 : Byte := BitVec.ofNat 8 s0
  let s1 := if 160 ≤ s0 then s0 + 96 else s0
  { a := BitVec.ofNat 8 s1
    c := decide (256 ≤ s1)
    z := (addBin a m c).z
    v := ((a ^^^ r0) &&& (m ^^^ r0)).getLsbD 7
    n := r0.getLsbD 7 }

/-- Decimal SBC of the reference algorithm (U3; PRESUMED, log 7): the flags are those of the binary SBC. -/
def sbcNmos (a m : Byte) (c : Bool) : AluResult :=
  let al0 : Int := (lowNibble a : Int) - (lowNibble m : Int) + (bit c : Int) - 1
  let al : Int := if al0 < 0 then (al0 - 6) % 16 - 16 else al0
  let s0 : Int := (highNibble a * 16 : Int) - (highNibble m * 16 : Int) + al
  let s1 : Int := if s0 < 0 then s0 - 96 else s0
  { addBin a (m ^^^ 0xFF) c with a := BitVec.ofInt 8 s1 }

/-- ADC's result (R120): binary with D = 0, by `DECIMAL_MODEL` with D = 1 (R123). -/
def adcResult (s : State) (m : Byte) : AluResult :=
  if s.d then
    match s.cfg.decimalModel with
    | .validBcdOnly => adcValidBcd s.draws s.a m s.c
    | .nmos => adcNmos s.a m s.c
  else addBin s.a m s.c

/-- SBC's result (R121): `AddBin(A, m ^ $FF, C)` with D = 0, by `DECIMAL_MODEL` with D = 1 (R124). -/
def sbcResult (s : State) (m : Byte) : AluResult :=
  if s.d then
    match s.cfg.decimalModel with
    | .validBcdOnly => sbcValidBcd s.draws s.a m s.c
    | .nmos => sbcNmos s.a m s.c
  else addBin s.a (m ^^^ 0xFF) s.c

/-- The flags of CMP, CPX, CPY: C is no-borrow of an unsigned comparison, Z and N those of the difference
(R171 to R173). -/
def State.setCompare (r m : Byte) (s : State) : State :=
  { s with c := decide (m.toNat ≤ r.toNat) }.setNZ (r - m)

/-- The flags of BIT (R170). -/
def State.setBitTest (m : Byte) (s : State) : State :=
  { s with z := decide (s.a &&& m = 0), n := m.getLsbD 7, v := m.getLsbD 6 }

/-- A shifted byte and the bit shifted out, which goes to C. -/
structure ShiftResult where
  r : Byte
  c : Bool
  deriving DecidableEq, Repr

/-- ASL: `{ m[6:0], 0 }`, C from bit 7 (R140). -/
def aslResult (m : Byte) : ShiftResult := ⟨m <<< 1, m.getLsbD 7⟩

/-- LSR: `{ 0, m[7:1] }`, C from bit 0 (R141). -/
def lsrResult (m : Byte) : ShiftResult := ⟨m >>> 1, m.getLsbD 0⟩

/-- ROL: `{ m[6:0], C }`, C from bit 7 (R142). -/
def rolResult (c : Bool) (m : Byte) : ShiftResult := ⟨(m <<< 1) ||| (if c then 0x01 else 0x00), m.getLsbD 7⟩

/-- ROR: `{ C, m[7:1] }`, C from bit 0 (R143). -/
def rorResult (c : Bool) (m : Byte) : ShiftResult := ⟨(m >>> 1) ||| (if c then 0x80 else 0x00), m.getLsbD 0⟩

end Sys2Proof.Machine
end

