-- ==== Sys2Proof/Machine/Ops.lean ====
section
/-! DEFINITION. The named operations over memory and registers: MemRead and MemWrite, the stack, taking an exception and
returning from one, reset, and what happens at an instruction boundary. -/

namespace Sys2Proof.Machine

/-- The class of an address in a memory map: that of the first region that holds it, RAM where none does (R43, R52;
log 9). DESIGN CHOICE: R52 leaves to the platform whether addresses are mirrored; a map here has no mirrors, every RAM
or ROM address has a cell of its own (log 9). -/
def classIn : List Region → Nat → MemClass
  | [], _ => .ram
  | r :: rs, a => if r.base ≤ a ∧ a < r.base + r.size then r.cls else classIn rs a

/-- The class `MEMMAP` gives address `a` (R43). -/
def State.classOf (s : State) (a : Word) : MemClass := classIn s.cfg.memMap a.toNat

/-- `MemRead(a, 1)` (R43): RAM and ROM give the stored byte; UNMAPPED gives `any`, and so does DEVICE, no device model
being given (U4, U5; logs 10, 11). `k` says which read of the step it is. -/
def State.read (k : Access) (a : Word) (s : State) : Byte :=
  match s.classOf a with
  | .ram | .rom => Memory.read s.mem a.toNat
  | .device | .unmapped => Config.anyByte s.draws (.read k)

/-- `MemWrite(a, 1, v)` (R43): RAM is written; ROM and UNMAPPED ignore the write, and so does DEVICE (U5; log 10). -/
def State.write (a : Word) (v : Byte) (s : State) : State :=
  match s.classOf a with
  | .ram => { s with mem := Memory.write s.mem a.toNat v }
  | .rom | .device | .unmapped => s

/-- Begin an instruction of `len` bytes: PC points past it while its operation runs (R62, D33). The model's draw
counter moves on, and a delayed I (R229) is spent. -/
def State.advance (len : Nat) (s : State) : State :=
  { s with pc := s.pc + BitVec.ofNat 16 len, polledI := none, draws := s.draws + 1 }

/-- The stack address `{$01, S}` (R14). -/
def State.stackAddr (s : State) : Word := word 0x01 s.sp

/-- `Push(v)`: store at `$0100 + S`, then decrement S modulo 256 (R46). -/
def State.push (v : Byte) (s : State) : State :=
  let s := s.write s.stackAddr v
  { s with sp := s.sp - 1 }

/-- `Push16(w)`: high byte first (R48). -/
def State.push16 (w : Word) (s : State) : State := (s.push (hi w)).push (lo w)

/-- `Pull()`: increment S modulo 256, then read at `$0100 + S` (R47). -/
def State.pull (k : Access) (s : State) : Byte × State :=
  let s := { s with sp := s.sp + 1 }
  (s.read k s.stackAddr, s)

/-- `Pull16()`: low byte first (R48). -/
def State.pull16 (kLow kHigh : Access) (s : State) : Word × State :=
  let low := s.pull kLow
  let high := low.2.pull kHigh
  (word high.1 low.1, high.2)

/-- `MemRead(vector, 2)`: the little-endian word at a vector; the second address wraps modulo 65536 (R42, R49). -/
def State.readVector (vector : Word) (s : State) : Word :=
  word (s.read .vectorHigh (vector + 1)) (s.read .vectorLow vector)

/-- `TrapEntry(ret, b, vector)` (R224): push the return address, push the image of P with break bit `b` and the old I,
set I, go through the vector. -/
def State.trapEntry (ret : Word) (b : Bool) (vector : Word) (s : State) : State :=
  let s := s.push16 ret
  let s := s.push (s.pImage b)
  let s := { s with i := true }
  { s with pc := s.readVector vector }

/-- The return from a trap (R191, R230): pull P, then PC, with no adjustment. -/
def State.trapReturn (s : State) : State :=
  let p := s.pull .pull1
  let s := p.2.setP p.1
  let ret := s.pull16 .pull2 .pull3
  { ret.2 with pc := ret.1 }

/-- Begin an event that is no instruction: as `State.advance`, with PC left where it is. -/
def State.beginEvent (s : State) : State := { s with polledI := none, draws := s.draws + 1 }

/-- IRQ entry (R225). -/
def State.irqEntry (s : State) : State :=
  let s := s.beginEvent
  s.trapEntry s.pc false s.cfg.vecIrq

/-- NMI entry (R227). -/
def State.nmiEntry (s : State) : State :=
  let s := { s.beginEvent with nmiPending := false }
  s.trapEntry s.pc false s.cfg.vecNmi

/-- A, X, Y, S, C, Z, D, V, N become `any` (R7). -/
def State.anyRegisters (s : State) : State :=
  { s with a := Config.anyByte s.draws .regA, x := Config.anyByte s.draws .regX, y := Config.anyByte s.draws .regY,
           sp := Config.anyByte s.draws .regS, c := Config.anyBit s.draws .flagC, z := Config.anyBit s.draws .flagZ,
           d := Config.anyBit s.draws .flagD, v := Config.anyBit s.draws .flagV, n := Config.anyBit s.draws .flagN }

/-- What a reset leaves in A, X, Y, S, C, Z, D, V, N, by `RESET_STATE` (R260, R4; log 19). -/
def State.resetRegisters (s : State) : State :=
  match s.cfg.resetState with
  | .unconstrained => s.anyRegisters
  | .given r => { s with a := r.a, x := r.x, y := r.y, sp := r.sp, c := r.c, z := r.z, d := r.d, v := r.v, n := r.n }
  | .keep => { s with sp := Config.anyByte s.draws .regS }

/-- Reset (R260): set I, fetch the reset vector, clear `nmi_pending`; nothing is pushed and no cell is written. -/
def State.resetEntry (s : State) : State :=
  let s := s.beginEvent
  let s := { s with i := true }
  let s := { s with pc := s.readVector s.cfg.vecReset }
  let s := { s with nmiPending := false }
  s.resetRegisters

/-- Stores in turn, each of them `MemWrite` (R43). -/
def State.writeAll : List (Word × Byte) → State → State
  | [], s => s
  | (a, v) :: l, s => State.writeAll l (s.write a v)

/-- The effect of an unassigned opcode byte under `ILLEGAL_OPCODE` = `unconstrained`: every register and flag, PC and I
among them, is `any`, and an unknown list of stores is made. The inputs and `nmi_pending` are not touched
(DESIGN CHOICE, log 16). -/
def State.anyEffect (s : State) : State :=
  let s := s.beginEvent
  let s := s.anyRegisters
  let s := { s with i := Config.anyBit s.draws .flagI,
                    pc := word (Config.anyByte s.draws .pcHigh) (Config.anyByte s.draws .pcLow) }
  s.writeAll (Config.anyStores s.draws)

/-- An instruction boundary: the environment's next choice is taken (R223). The two levels become what it presents;
an NMI edge is latched, and a second one while the first is pending is not counted (R27). With no choice left the
levels stay as they are (log 13). -/
def State.atBoundary (s : State) : State :=
  match s.env with
  | [] => s
  | e :: rest => { s with irqLine := e.irq, nmiPending := s.nmiPending || e.nmiEdge, resetRequest := e.reset, env := rest }

/-- Does I let an IRQ through at this boundary (R225)? Under R229's delay it is the I the last CLI, SEI or PLP found. -/
def State.irqEnabled (s : State) : Bool := !(s.polledI.getD s.i)

/-- The event that pre-empts the next instruction at this boundary, if any. -/
inductive Event where
  | reset
  | nmi
  | irq
  deriving DecidableEq, Repr

/-- Priority at a boundary: reset, then NMI, then IRQ with I = 0 (R223, R228). -/
def State.pendingEvent (s : State) : Option Event :=
  if s.resetRequest then some .reset
  else if s.nmiPending then some .nmi
  else if s.irqLine && s.irqEnabled then some .irq
  else none

/-- What an event does to the state. -/
def State.takeEvent : Event → State → State
  | .reset => State.resetEntry
  | .nmi => State.nmiEntry
  | .irq => State.irqEntry

end Sys2Proof.Machine
end

