-- ==== Sys2Proof/Syntax.lean ====
section
/-! DEFINITION. The instructions: one constructor of `Instr` for each of the 151 rows of spec/opcode_table.json (R61),
and the two ways the spec names one, a mnemonic and an operand in one of the thirteen addressing modes. -/

namespace Sys2Proof

/-- The thirteen addressing modes (R3, R64 to R76; conflict C1). -/
inductive Mode where
  | accumulator
  | immediate
  | zeroPage
  | zeroPageX
  | zeroPageY
  | absolute
  | absoluteX
  | absoluteY
  | implied
  | relative
  | indirectX
  | indirectY
  | absoluteIndirect
  deriving DecidableEq, Repr

/-- An operand in one of the eight modes that form the address of a data byte, with its operand bytes: `b` is `b1`,
`w` is `{b2, b1}` (R63). -/
inductive MemMode where
  /-- Zero Page (R66). -/
  | zp (b : Byte)
  /-- Zero Page,X (R67). -/
  | zpX (b : Byte)
  /-- Zero Page,Y (R68). -/
  | zpY (b : Byte)
  /-- Absolute (R69). -/
  | abs (w : Word)
  /-- Absolute,X (R70). -/
  | absX (w : Word)
  /-- Absolute,Y (R71). -/
  | absY (w : Word)
  /-- (Indirect,X) (R74). -/
  | indX (b : Byte)
  /-- (Indirect),Y (R75). -/
  | indY (b : Byte)
  deriving DecidableEq, Repr

/-- An operand that is read: a constant or a memory byte (R65, R63). -/
inductive Src where
  | imm (b : Byte)
  | mem (m : MemMode)
  deriving DecidableEq, Repr

/-- An operand that is read and written in place: the accumulator or a memory byte (R64, R57). -/
inductive Place where
  | acc
  | mem (m : MemMode)
  deriving DecidableEq, Repr

/-- Any operand of the assembler's notation (R81). -/
inductive Operand where
  | implied
  | accumulator
  | immediate (b : Byte)
  | memory (m : MemMode)
  | relative (b : Byte)
  | indirect (w : Word)
  deriving DecidableEq, Repr

/-- A read operand in the assembler's notation. -/
def Src.operand : Src → Operand
  | .imm b => .immediate b
  | .mem m => .memory m

/-- An in-place operand in the assembler's notation. -/
def Place.operand : Place → Operand
  | .acc => .accumulator
  | .mem m => .memory m

/-- The addressing mode of a memory operand. -/
def MemMode.mode : MemMode → Mode
  | .zp _ => .zeroPage
  | .zpX _ => .zeroPageX
  | .zpY _ => .zeroPageY
  | .abs _ => .absolute
  | .absX _ => .absoluteX
  | .absY _ => .absoluteY
  | .indX _ => .indirectX
  | .indY _ => .indirectY

/-- The addressing mode of an operand. -/
def Operand.mode : Operand → Mode
  | .implied => .implied
  | .accumulator => .accumulator
  | .immediate _ => .immediate
  | .memory m => m.mode
  | .relative _ => .relative
  | .indirect _ => .absoluteIndirect

/-- The length in bytes of an instruction in a mode (R62). -/
def Mode.length : Mode → Nat
  | .implied | .accumulator => 1
  | .immediate | .zeroPage | .zeroPageX | .zeroPageY | .relative | .indirectX | .indirectY => 2
  | .absolute | .absoluteX | .absoluteY | .absoluteIndirect => 3

/-- The 56 mnemonics (R61). -/
inductive Mnemonic where
  | lda
  | ldx
  | ldy
  | sta
  | stx
  | sty
  | tax
  | tay
  | txa
  | tya
  | tsx
  | txs
  | adc
  | sbc
  | dec
  | dex
  | dey
  | inc
  | inx
  | iny
  | asl
  | lsr
  | rol
  | ror
  | and
  | eor
  | ora
  | clc
  | cld
  | cli
  | clv
  | sec
  | sed
  | sei
  | bit
  | cmp
  | cpx
  | cpy
  | bcc
  | bcs
  | beq
  | bmi
  | bne
  | bpl
  | bvc
  | bvs
  | jmp
  | jsr
  | rti
  | rts
  | pha
  | php
  | pla
  | plp
  | brk
  | nop
  deriving DecidableEq, Repr

/-- The instructions, one constructor for each row of spec/opcode_table.json. A `Byte` argument is the operand byte
`b1`, a `Word` argument the operand word `{b2, b1}` (R63). Which modes an instruction has is in its constructors, so no
term of this type names a form the table lacks. -/
inductive Instr where
  -- Data transfer (R100 to R105).
  | ldaIndX (b : Byte)
  | ldaZp (b : Byte)
  | ldaImm (b : Byte)
  | ldaAbs (w : Word)
  | ldaIndY (b : Byte)
  | ldaZpX (b : Byte)
  | ldaAbsY (w : Word)
  | ldaAbsX (w : Word)
  | ldxImm (b : Byte)
  | ldxZp (b : Byte)
  | ldxAbs (w : Word)
  | ldxZpY (b : Byte)
  | ldxAbsY (w : Word)
  | ldyImm (b : Byte)
  | ldyZp (b : Byte)
  | ldyAbs (w : Word)
  | ldyZpX (b : Byte)
  | ldyAbsX (w : Word)
  | staIndX (b : Byte)
  | staZp (b : Byte)
  | staAbs (w : Word)
  | staIndY (b : Byte)
  | staZpX (b : Byte)
  | staAbsY (w : Word)
  | staAbsX (w : Word)
  | stxZp (b : Byte)
  | stxAbs (w : Word)
  | stxZpY (b : Byte)
  | styZp (b : Byte)
  | styAbs (w : Word)
  | styZpX (b : Byte)
  -- Register transfer (R110 to R115).
  | tax
  | tay
  | txa
  | tya
  | tsx
  | txs
  -- Addition and subtraction (R120, R121).
  | adcIndX (b : Byte)
  | adcZp (b : Byte)
  | adcImm (b : Byte)
  | adcAbs (w : Word)
  | adcIndY (b : Byte)
  | adcZpX (b : Byte)
  | adcAbsY (w : Word)
  | adcAbsX (w : Word)
  | sbcIndX (b : Byte)
  | sbcZp (b : Byte)
  | sbcImm (b : Byte)
  | sbcAbs (w : Word)
  | sbcIndY (b : Byte)
  | sbcZpX (b : Byte)
  | sbcAbsY (w : Word)
  | sbcAbsX (w : Word)
  -- Increment and decrement (R130 to R135).
  | decZp (b : Byte)
  | decAbs (w : Word)
  | decZpX (b : Byte)
  | decAbsX (w : Word)
  | dex
  | dey
  | incZp (b : Byte)
  | incAbs (w : Word)
  | incZpX (b : Byte)
  | incAbsX (w : Word)
  | inx
  | iny
  -- Rotate and shift (R140 to R143).
  | aslZp (b : Byte)
  | aslAcc
  | aslAbs (w : Word)
  | aslZpX (b : Byte)
  | aslAbsX (w : Word)
  | lsrZp (b : Byte)
  | lsrAcc
  | lsrAbs (w : Word)
  | lsrZpX (b : Byte)
  | lsrAbsX (w : Word)
  | rolZp (b : Byte)
  | rolAcc
  | rolAbs (w : Word)
  | rolZpX (b : Byte)
  | rolAbsX (w : Word)
  | rorZp (b : Byte)
  | rorAcc
  | rorAbs (w : Word)
  | rorZpX (b : Byte)
  | rorAbsX (w : Word)
  -- Logical (R150 to R152).
  | andIndX (b : Byte)
  | andZp (b : Byte)
  | andImm (b : Byte)
  | andAbs (w : Word)
  | andIndY (b : Byte)
  | andZpX (b : Byte)
  | andAbsY (w : Word)
  | andAbsX (w : Word)
  | eorIndX (b : Byte)
  | eorZp (b : Byte)
  | eorImm (b : Byte)
  | eorAbs (w : Word)
  | eorIndY (b : Byte)
  | eorZpX (b : Byte)
  | eorAbsY (w : Word)
  | eorAbsX (w : Word)
  | oraIndX (b : Byte)
  | oraZp (b : Byte)
  | oraImm (b : Byte)
  | oraAbs (w : Word)
  | oraIndY (b : Byte)
  | oraZpX (b : Byte)
  | oraAbsY (w : Word)
  | oraAbsX (w : Word)
  -- Status flags (R160 to R166).
  | clc
  | cld
  | cli
  | clv
  | sec
  | sed
  | sei
  -- Compare (R170 to R173).
  | bitZp (b : Byte)
  | bitAbs (w : Word)
  | cmpIndX (b : Byte)
  | cmpZp (b : Byte)
  | cmpImm (b : Byte)
  | cmpAbs (w : Word)
  | cmpIndY (b : Byte)
  | cmpZpX (b : Byte)
  | cmpAbsY (w : Word)
  | cmpAbsX (w : Word)
  | cpxImm (b : Byte)
  | cpxZp (b : Byte)
  | cpxAbs (w : Word)
  | cpyImm (b : Byte)
  | cpyZp (b : Byte)
  | cpyAbs (w : Word)
  -- Branch, jump, return (R180 to R192).
  | bcc (b : Byte)
  | bcs (b : Byte)
  | beq (b : Byte)
  | bmi (b : Byte)
  | bne (b : Byte)
  | bpl (b : Byte)
  | bvc (b : Byte)
  | bvs (b : Byte)
  | jmpAbs (w : Word)
  | jmpInd (w : Word)
  | jsr (w : Word)
  | rti
  | rts
  -- Stack and machine control (R200 to R205).
  | pha
  | php
  | pla
  | plp
  | brk
  | nop
  deriving DecidableEq, Repr

/-- An instruction as the assembler writes it: a mnemonic and an operand (R81). Not every pair is an instruction
(WellFormed.lean). -/
structure Form where
  mnemonic : Mnemonic
  operand  : Operand
  deriving DecidableEq, Repr

/-- The mnemonic and operand of an instruction (R61). -/
def Instr.form : Instr → Form
  | .ldaIndX b => ⟨.lda, .memory (.indX b)⟩
  | .ldaZp b => ⟨.lda, .memory (.zp b)⟩
  | .ldaImm b => ⟨.lda, .immediate b⟩
  | .ldaAbs w => ⟨.lda, .memory (.abs w)⟩
  | .ldaIndY b => ⟨.lda, .memory (.indY b)⟩
  | .ldaZpX b => ⟨.lda, .memory (.zpX b)⟩
  | .ldaAbsY w => ⟨.lda, .memory (.absY w)⟩
  | .ldaAbsX w => ⟨.lda, .memory (.absX w)⟩
  | .ldxImm b => ⟨.ldx, .immediate b⟩
  | .ldxZp b => ⟨.ldx, .memory (.zp b)⟩
  | .ldxAbs w => ⟨.ldx, .memory (.abs w)⟩
  | .ldxZpY b => ⟨.ldx, .memory (.zpY b)⟩
  | .ldxAbsY w => ⟨.ldx, .memory (.absY w)⟩
  | .ldyImm b => ⟨.ldy, .immediate b⟩
  | .ldyZp b => ⟨.ldy, .memory (.zp b)⟩
  | .ldyAbs w => ⟨.ldy, .memory (.abs w)⟩
  | .ldyZpX b => ⟨.ldy, .memory (.zpX b)⟩
  | .ldyAbsX w => ⟨.ldy, .memory (.absX w)⟩
  | .staIndX b => ⟨.sta, .memory (.indX b)⟩
  | .staZp b => ⟨.sta, .memory (.zp b)⟩
  | .staAbs w => ⟨.sta, .memory (.abs w)⟩
  | .staIndY b => ⟨.sta, .memory (.indY b)⟩
  | .staZpX b => ⟨.sta, .memory (.zpX b)⟩
  | .staAbsY w => ⟨.sta, .memory (.absY w)⟩
  | .staAbsX w => ⟨.sta, .memory (.absX w)⟩
  | .stxZp b => ⟨.stx, .memory (.zp b)⟩
  | .stxAbs w => ⟨.stx, .memory (.abs w)⟩
  | .stxZpY b => ⟨.stx, .memory (.zpY b)⟩
  | .styZp b => ⟨.sty, .memory (.zp b)⟩
  | .styAbs w => ⟨.sty, .memory (.abs w)⟩
  | .styZpX b => ⟨.sty, .memory (.zpX b)⟩
  | .tax => ⟨.tax, .implied⟩
  | .tay => ⟨.tay, .implied⟩
  | .txa => ⟨.txa, .implied⟩
  | .tya => ⟨.tya, .implied⟩
  | .tsx => ⟨.tsx, .implied⟩
  | .txs => ⟨.txs, .implied⟩
  | .adcIndX b => ⟨.adc, .memory (.indX b)⟩
  | .adcZp b => ⟨.adc, .memory (.zp b)⟩
  | .adcImm b => ⟨.adc, .immediate b⟩
  | .adcAbs w => ⟨.adc, .memory (.abs w)⟩
  | .adcIndY b => ⟨.adc, .memory (.indY b)⟩
  | .adcZpX b => ⟨.adc, .memory (.zpX b)⟩
  | .adcAbsY w => ⟨.adc, .memory (.absY w)⟩
  | .adcAbsX w => ⟨.adc, .memory (.absX w)⟩
  | .sbcIndX b => ⟨.sbc, .memory (.indX b)⟩
  | .sbcZp b => ⟨.sbc, .memory (.zp b)⟩
  | .sbcImm b => ⟨.sbc, .immediate b⟩
  | .sbcAbs w => ⟨.sbc, .memory (.abs w)⟩
  | .sbcIndY b => ⟨.sbc, .memory (.indY b)⟩
  | .sbcZpX b => ⟨.sbc, .memory (.zpX b)⟩
  | .sbcAbsY w => ⟨.sbc, .memory (.absY w)⟩
  | .sbcAbsX w => ⟨.sbc, .memory (.absX w)⟩
  | .decZp b => ⟨.dec, .memory (.zp b)⟩
  | .decAbs w => ⟨.dec, .memory (.abs w)⟩
  | .decZpX b => ⟨.dec, .memory (.zpX b)⟩
  | .decAbsX w => ⟨.dec, .memory (.absX w)⟩
  | .dex => ⟨.dex, .implied⟩
  | .dey => ⟨.dey, .implied⟩
  | .incZp b => ⟨.inc, .memory (.zp b)⟩
  | .incAbs w => ⟨.inc, .memory (.abs w)⟩
  | .incZpX b => ⟨.inc, .memory (.zpX b)⟩
  | .incAbsX w => ⟨.inc, .memory (.absX w)⟩
  | .inx => ⟨.inx, .implied⟩
  | .iny => ⟨.iny, .implied⟩
  | .aslZp b => ⟨.asl, .memory (.zp b)⟩
  | .aslAcc => ⟨.asl, .accumulator⟩
  | .aslAbs w => ⟨.asl, .memory (.abs w)⟩
  | .aslZpX b => ⟨.asl, .memory (.zpX b)⟩
  | .aslAbsX w => ⟨.asl, .memory (.absX w)⟩
  | .lsrZp b => ⟨.lsr, .memory (.zp b)⟩
  | .lsrAcc => ⟨.lsr, .accumulator⟩
  | .lsrAbs w => ⟨.lsr, .memory (.abs w)⟩
  | .lsrZpX b => ⟨.lsr, .memory (.zpX b)⟩
  | .lsrAbsX w => ⟨.lsr, .memory (.absX w)⟩
  | .rolZp b => ⟨.rol, .memory (.zp b)⟩
  | .rolAcc => ⟨.rol, .accumulator⟩
  | .rolAbs w => ⟨.rol, .memory (.abs w)⟩
  | .rolZpX b => ⟨.rol, .memory (.zpX b)⟩
  | .rolAbsX w => ⟨.rol, .memory (.absX w)⟩
  | .rorZp b => ⟨.ror, .memory (.zp b)⟩
  | .rorAcc => ⟨.ror, .accumulator⟩
  | .rorAbs w => ⟨.ror, .memory (.abs w)⟩
  | .rorZpX b => ⟨.ror, .memory (.zpX b)⟩
  | .rorAbsX w => ⟨.ror, .memory (.absX w)⟩
  | .andIndX b => ⟨.and, .memory (.indX b)⟩
  | .andZp b => ⟨.and, .memory (.zp b)⟩
  | .andImm b => ⟨.and, .immediate b⟩
  | .andAbs w => ⟨.and, .memory (.abs w)⟩
  | .andIndY b => ⟨.and, .memory (.indY b)⟩
  | .andZpX b => ⟨.and, .memory (.zpX b)⟩
  | .andAbsY w => ⟨.and, .memory (.absY w)⟩
  | .andAbsX w => ⟨.and, .memory (.absX w)⟩
  | .eorIndX b => ⟨.eor, .memory (.indX b)⟩
  | .eorZp b => ⟨.eor, .memory (.zp b)⟩
  | .eorImm b => ⟨.eor, .immediate b⟩
  | .eorAbs w => ⟨.eor, .memory (.abs w)⟩
  | .eorIndY b => ⟨.eor, .memory (.indY b)⟩
  | .eorZpX b => ⟨.eor, .memory (.zpX b)⟩
  | .eorAbsY w => ⟨.eor, .memory (.absY w)⟩
  | .eorAbsX w => ⟨.eor, .memory (.absX w)⟩
  | .oraIndX b => ⟨.ora, .memory (.indX b)⟩
  | .oraZp b => ⟨.ora, .memory (.zp b)⟩
  | .oraImm b => ⟨.ora, .immediate b⟩
  | .oraAbs w => ⟨.ora, .memory (.abs w)⟩
  | .oraIndY b => ⟨.ora, .memory (.indY b)⟩
  | .oraZpX b => ⟨.ora, .memory (.zpX b)⟩
  | .oraAbsY w => ⟨.ora, .memory (.absY w)⟩
  | .oraAbsX w => ⟨.ora, .memory (.absX w)⟩
  | .clc => ⟨.clc, .implied⟩
  | .cld => ⟨.cld, .implied⟩
  | .cli => ⟨.cli, .implied⟩
  | .clv => ⟨.clv, .implied⟩
  | .sec => ⟨.sec, .implied⟩
  | .sed => ⟨.sed, .implied⟩
  | .sei => ⟨.sei, .implied⟩
  | .bitZp b => ⟨.bit, .memory (.zp b)⟩
  | .bitAbs w => ⟨.bit, .memory (.abs w)⟩
  | .cmpIndX b => ⟨.cmp, .memory (.indX b)⟩
  | .cmpZp b => ⟨.cmp, .memory (.zp b)⟩
  | .cmpImm b => ⟨.cmp, .immediate b⟩
  | .cmpAbs w => ⟨.cmp, .memory (.abs w)⟩
  | .cmpIndY b => ⟨.cmp, .memory (.indY b)⟩
  | .cmpZpX b => ⟨.cmp, .memory (.zpX b)⟩
  | .cmpAbsY w => ⟨.cmp, .memory (.absY w)⟩
  | .cmpAbsX w => ⟨.cmp, .memory (.absX w)⟩
  | .cpxImm b => ⟨.cpx, .immediate b⟩
  | .cpxZp b => ⟨.cpx, .memory (.zp b)⟩
  | .cpxAbs w => ⟨.cpx, .memory (.abs w)⟩
  | .cpyImm b => ⟨.cpy, .immediate b⟩
  | .cpyZp b => ⟨.cpy, .memory (.zp b)⟩
  | .cpyAbs w => ⟨.cpy, .memory (.abs w)⟩
  | .bcc b => ⟨.bcc, .relative b⟩
  | .bcs b => ⟨.bcs, .relative b⟩
  | .beq b => ⟨.beq, .relative b⟩
  | .bmi b => ⟨.bmi, .relative b⟩
  | .bne b => ⟨.bne, .relative b⟩
  | .bpl b => ⟨.bpl, .relative b⟩
  | .bvc b => ⟨.bvc, .relative b⟩
  | .bvs b => ⟨.bvs, .relative b⟩
  | .jmpAbs w => ⟨.jmp, .memory (.abs w)⟩
  | .jmpInd w => ⟨.jmp, .indirect w⟩
  | .jsr w => ⟨.jsr, .memory (.abs w)⟩
  | .rti => ⟨.rti, .implied⟩
  | .rts => ⟨.rts, .implied⟩
  | .pha => ⟨.pha, .implied⟩
  | .php => ⟨.php, .implied⟩
  | .pla => ⟨.pla, .implied⟩
  | .plp => ⟨.plp, .implied⟩
  | .brk => ⟨.brk, .implied⟩
  | .nop => ⟨.nop, .implied⟩

/-- The mnemonic of an instruction. -/
def Instr.mnemonic (i : Instr) : Mnemonic := i.form.mnemonic

/-- The addressing mode of an instruction. -/
def Instr.mode (i : Instr) : Mode := i.form.operand.mode

/-- The length of an instruction in bytes (R62). -/
def Instr.length (i : Instr) : Nat := i.mode.length

end Sys2Proof
end

