-- ==== Sys2Proof/Machine/Operands.lean ====
section
/-! DEFINITION. The addressing modes: effective addresses, operand values, results stored in place (R64 to R76). -/

namespace Sys2Proof.Machine

/-- `Read16ZP(z)`: the pointer at zero-page address `z`; its second byte is at `(z + 1) mod 256` (R44). -/
def State.read16ZP (z : Byte) (s : State) : Word :=
  word (s.read .pointerHigh (zext16 (z + 1))) (s.read .pointerLow (zext16 z))

/-- `Read16Page(a)`: the word at `a` with its second byte in the same 256-byte page (R76). -/
def State.read16Page (a : Word) (s : State) : Word :=
  word (s.read .pointerHigh (word (hi a) (lo a + 1))) (s.read .pointerLow a)

/-- `EA(mode)` (R66 to R71, R74, R75). Zero-page sums wrap modulo 256, the others modulo 65536 (R51). -/
def effAddr : MemMode → State → Word
  | .zp b, _ => zext16 b
  | .zpX b, s => zext16 (b + s.x)
  | .zpY b, s => zext16 (b + s.y)
  | .abs w, _ => w
  | .absX w, s => w + zext16 s.x
  | .absY w, s => w + zext16 s.y
  | .indX b, s => s.read16ZP (b + s.x)
  | .indY b, s => s.read16ZP b + zext16 s.y

/-- The byte at the effective address, `MemRead(EA(mode), 1)`. -/
def memOperand (m : MemMode) (s : State) : Byte := s.read .data (effAddr m s)

/-- `Operand(mode)`: the constant of Immediate, the byte at the effective address of the others (R65). -/
def srcValue : Src → State → Byte
  | .imm b, _ => b
  | .mem m, s => memOperand m s

/-- The operand of a shift: A in Accumulator mode (R64), else the memory byte. -/
def placeValue : Place → State → Byte
  | .acc, s => s.a
  | .mem m, s => memOperand m s

/-- `store(r)` of a shift: to A in Accumulator mode (R64), else to the effective address (R57). -/
def placeStore (p : Place) (r : Byte) (s : State) : State :=
  match p with
  | .acc => { s with a := r }
  | .mem m => s.write (effAddr m s) r

/-- The length of an instruction with a memory operand (R62). -/
def memLength (m : MemMode) : Nat := m.mode.length

/-- The length of an instruction with a read operand (R62). -/
def srcLength (o : Src) : Nat := o.operand.mode.length

/-- The length of an instruction that works in place (R62). -/
def placeLength (p : Place) : Nat := p.operand.mode.length

end Sys2Proof.Machine
end

