-- ==== Sys2Proof/Machine/AddSubtract.lean ====
section
/-! DEFINITION. Addition and subtraction: ADC, SBC (R120 to R125). The arithmetic is in Flags.lean. -/

namespace Sys2Proof.Machine

/-- ADC (R120, R123). -/
def opAdc (o : Src) (s : State) : State :=
  let s := s.advance (srcLength o)
  s.setAlu (adcResult s (srcValue o s))

/-- SBC (R121, R124). -/
def opSbc (o : Src) (s : State) : State :=
  let s := s.advance (srcLength o)
  s.setAlu (sbcResult s (srcValue o s))

/-- ADC, (Indirect,X): opcode $61 (R120, R74). -/
def execAdcIndX (b : Byte) (s : State) : Host.Outcome State Fault Refusal := .next (opAdc (.mem (.indX b)) s)

/-- ADC, Zero Page: opcode $65 (R120, R66). -/
def execAdcZp (b : Byte) (s : State) : Host.Outcome State Fault Refusal := .next (opAdc (.mem (.zp b)) s)

/-- ADC, Immediate: opcode $69 (R120, R65). -/
def execAdcImm (b : Byte) (s : State) : Host.Outcome State Fault Refusal := .next (opAdc (.imm b) s)

/-- ADC, Absolute: opcode $6D (R120, R69). -/
def execAdcAbs (w : Word) (s : State) : Host.Outcome State Fault Refusal := .next (opAdc (.mem (.abs w)) s)

/-- ADC, (Indirect),Y: opcode $71 (R120, R75). -/
def execAdcIndY (b : Byte) (s : State) : Host.Outcome State Fault Refusal := .next (opAdc (.mem (.indY b)) s)

/-- ADC, Zero Page,X: opcode $75 (R120, R67). -/
def execAdcZpX (b : Byte) (s : State) : Host.Outcome State Fault Refusal := .next (opAdc (.mem (.zpX b)) s)

/-- ADC, Absolute,Y: opcode $79 (R120, R71). -/
def execAdcAbsY (w : Word) (s : State) : Host.Outcome State Fault Refusal := .next (opAdc (.mem (.absY w)) s)

/-- ADC, Absolute,X: opcode $7D (R120, R70). -/
def execAdcAbsX (w : Word) (s : State) : Host.Outcome State Fault Refusal := .next (opAdc (.mem (.absX w)) s)

/-- SBC, (Indirect,X): opcode $E1 (R121, R74). -/
def execSbcIndX (b : Byte) (s : State) : Host.Outcome State Fault Refusal := .next (opSbc (.mem (.indX b)) s)

/-- SBC, Zero Page: opcode $E5 (R121, R66). -/
def execSbcZp (b : Byte) (s : State) : Host.Outcome State Fault Refusal := .next (opSbc (.mem (.zp b)) s)

/-- SBC, Immediate: opcode $E9 (R121, R65). -/
def execSbcImm (b : Byte) (s : State) : Host.Outcome State Fault Refusal := .next (opSbc (.imm b) s)

/-- SBC, Absolute: opcode $ED (R121, R69). -/
def execSbcAbs (w : Word) (s : State) : Host.Outcome State Fault Refusal := .next (opSbc (.mem (.abs w)) s)

/-- SBC, (Indirect),Y: opcode $F1 (R121, R75). -/
def execSbcIndY (b : Byte) (s : State) : Host.Outcome State Fault Refusal := .next (opSbc (.mem (.indY b)) s)

/-- SBC, Zero Page,X: opcode $F5 (R121, R67). -/
def execSbcZpX (b : Byte) (s : State) : Host.Outcome State Fault Refusal := .next (opSbc (.mem (.zpX b)) s)

/-- SBC, Absolute,Y: opcode $F9 (R121, R71). -/
def execSbcAbsY (w : Word) (s : State) : Host.Outcome State Fault Refusal := .next (opSbc (.mem (.absY w)) s)

/-- SBC, Absolute,X: opcode $FD (R121, R70). -/
def execSbcAbsX (w : Word) (s : State) : Host.Outcome State Fault Refusal := .next (opSbc (.mem (.absX w)) s)

end Sys2Proof.Machine
end

