-- ==== Sys2Proof/Machine/Compare.lean ====
section
/-! DEFINITION. Compare: BIT, CMP, CPX, CPY (R170 to R173). -/

namespace Sys2Proof.Machine

/-- BIT (R170). -/
def opBit (m : MemMode) (s : State) : State :=
  let s := s.advance (memLength m)
  s.setBitTest (memOperand m s)

/-- CMP (R171). -/
def opCmp (o : Src) (s : State) : State :=
  let s := s.advance (srcLength o)
  s.setCompare s.a (srcValue o s)

/-- CPX (R172). -/
def opCpx (o : Src) (s : State) : State :=
  let s := s.advance (srcLength o)
  s.setCompare s.x (srcValue o s)

/-- CPY (R173). -/
def opCpy (o : Src) (s : State) : State :=
  let s := s.advance (srcLength o)
  s.setCompare s.y (srcValue o s)

/-- BIT, Zero Page: opcode $24 (R170, R66). -/
def execBitZp (b : Byte) (s : State) : Host.Outcome State Fault Refusal := .next (opBit (.zp b) s)

/-- BIT, Absolute: opcode $2C (R170, R69). -/
def execBitAbs (w : Word) (s : State) : Host.Outcome State Fault Refusal := .next (opBit (.abs w) s)

/-- CMP, (Indirect,X): opcode $C1 (R171, R74). -/
def execCmpIndX (b : Byte) (s : State) : Host.Outcome State Fault Refusal := .next (opCmp (.mem (.indX b)) s)

/-- CMP, Zero Page: opcode $C5 (R171, R66). -/
def execCmpZp (b : Byte) (s : State) : Host.Outcome State Fault Refusal := .next (opCmp (.mem (.zp b)) s)

/-- CMP, Immediate: opcode $C9 (R171, R65). -/
def execCmpImm (b : Byte) (s : State) : Host.Outcome State Fault Refusal := .next (opCmp (.imm b) s)

/-- CMP, Absolute: opcode $CD (R171, R69). -/
def execCmpAbs (w : Word) (s : State) : Host.Outcome State Fault Refusal := .next (opCmp (.mem (.abs w)) s)

/-- CMP, (Indirect),Y: opcode $D1 (R171, R75). -/
def execCmpIndY (b : Byte) (s : State) : Host.Outcome State Fault Refusal := .next (opCmp (.mem (.indY b)) s)

/-- CMP, Zero Page,X: opcode $D5 (R171, R67). -/
def execCmpZpX (b : Byte) (s : State) : Host.Outcome State Fault Refusal := .next (opCmp (.mem (.zpX b)) s)

/-- CMP, Absolute,Y: opcode $D9 (R171, R71). -/
def execCmpAbsY (w : Word) (s : State) : Host.Outcome State Fault Refusal := .next (opCmp (.mem (.absY w)) s)

/-- CMP, Absolute,X: opcode $DD (R171, R70). -/
def execCmpAbsX (w : Word) (s : State) : Host.Outcome State Fault Refusal := .next (opCmp (.mem (.absX w)) s)

/-- CPX, Immediate: opcode $E0 (R172, R65). -/
def execCpxImm (b : Byte) (s : State) : Host.Outcome State Fault Refusal := .next (opCpx (.imm b) s)

/-- CPX, Zero Page: opcode $E4 (R172, R66). -/
def execCpxZp (b : Byte) (s : State) : Host.Outcome State Fault Refusal := .next (opCpx (.mem (.zp b)) s)

/-- CPX, Absolute: opcode $EC (R172, R69). -/
def execCpxAbs (w : Word) (s : State) : Host.Outcome State Fault Refusal := .next (opCpx (.mem (.abs w)) s)

/-- CPY, Immediate: opcode $C0 (R173, R65). -/
def execCpyImm (b : Byte) (s : State) : Host.Outcome State Fault Refusal := .next (opCpy (.imm b) s)

/-- CPY, Zero Page: opcode $C4 (R173, R66). -/
def execCpyZp (b : Byte) (s : State) : Host.Outcome State Fault Refusal := .next (opCpy (.mem (.zp b)) s)

/-- CPY, Absolute: opcode $CC (R173, R69). -/
def execCpyAbs (w : Word) (s : State) : Host.Outcome State Fault Refusal := .next (opCpy (.mem (.abs w)) s)

end Sys2Proof.Machine
end

