-- ==== Sys2Proof/Machine/Control.lean ====
section
/-! DEFINITION. Branch, jump and return: BCC, BCS, BEQ, BMI, BNE, BPL, BVC, BVS, JMP, JSR, RTI, RTS (R180 to R192). -/

namespace Sys2Proof.Machine

/-- The common behaviour of the eight branches (R188, R73): the offset is signed and relative to the next instruction. -/
def branchIf (cond : Bool) (b : Byte) (s : State) : State :=
  let s := s.advance 2
  if cond then { s with pc := s.pc + sext16 b } else s

/-- BCC (R180, R188). -/
def opBcc (b : Byte) (s : State) : State := branchIf (!s.c) b s

/-- BCS (R181, R188). -/
def opBcs (b : Byte) (s : State) : State := branchIf (s.c) b s

/-- BEQ (R182, R188). -/
def opBeq (b : Byte) (s : State) : State := branchIf (s.z) b s

/-- BMI (R183, R188). -/
def opBmi (b : Byte) (s : State) : State := branchIf (s.n) b s

/-- BNE (R184, R188). -/
def opBne (b : Byte) (s : State) : State := branchIf (!s.z) b s

/-- BPL (R185, R188). -/
def opBpl (b : Byte) (s : State) : State := branchIf (!s.n) b s

/-- BVC (R186, R188). -/
def opBvc (b : Byte) (s : State) : State := branchIf (!s.v) b s

/-- BVS (R187, R188). -/
def opBvs (b : Byte) (s : State) : State := branchIf (s.v) b s

/-- JMP, Absolute: the operand is the target (R189). -/
def opJmpAbs (w : Word) (s : State) : State :=
  let s := s.advance 3
  { s with pc := w }

/-- JMP, Absolute Indirect: the target is the word at the pointer, read inside the pointer's page (R189, R76; log 18). -/
def opJmpInd (w : Word) (s : State) : State :=
  let s := s.advance 3
  { s with pc := s.read16Page w }

/-- JSR (R190): push the address of the instruction's last byte, then jump. -/
def opJsr (w : Word) (s : State) : State :=
  let s := s.advance 3
  let s := s.push16 (s.pc - 1)
  { s with pc := w }

/-- RTI (R191): the return from a trap. -/
def opRti (s : State) : State :=
  let s := s.advance 1
  s.trapReturn

/-- RTS (R192): pull PC and add one. -/
def opRts (s : State) : State :=
  let s := s.advance 1
  let ret := s.pull16 .pull1 .pull2
  { ret.2 with pc := ret.1 + 1 }

/-- BCC, Relative: opcode $90 (R180, R73). -/
def execBcc (b : Byte) (s : State) : Host.Outcome State Fault Refusal := .next (opBcc b s)

/-- BCS, Relative: opcode $B0 (R181, R73). -/
def execBcs (b : Byte) (s : State) : Host.Outcome State Fault Refusal := .next (opBcs b s)

/-- BEQ, Relative: opcode $F0 (R182, R73). -/
def execBeq (b : Byte) (s : State) : Host.Outcome State Fault Refusal := .next (opBeq b s)

/-- BMI, Relative: opcode $30 (R183, R73). -/
def execBmi (b : Byte) (s : State) : Host.Outcome State Fault Refusal := .next (opBmi b s)

/-- BNE, Relative: opcode $D0 (R184, R73). -/
def execBne (b : Byte) (s : State) : Host.Outcome State Fault Refusal := .next (opBne b s)

/-- BPL, Relative: opcode $10 (R185, R73). -/
def execBpl (b : Byte) (s : State) : Host.Outcome State Fault Refusal := .next (opBpl b s)

/-- BVC, Relative: opcode $50 (R186, R73). -/
def execBvc (b : Byte) (s : State) : Host.Outcome State Fault Refusal := .next (opBvc b s)

/-- BVS, Relative: opcode $70 (R187, R73). -/
def execBvs (b : Byte) (s : State) : Host.Outcome State Fault Refusal := .next (opBvs b s)

/-- JMP, Absolute: opcode $4C (R189, R69). -/
def execJmpAbs (w : Word) (s : State) : Host.Outcome State Fault Refusal := .next (opJmpAbs w s)

/-- JMP, Absolute Indirect: opcode $6C (R189, R76). -/
def execJmpInd (w : Word) (s : State) : Host.Outcome State Fault Refusal := .next (opJmpInd w s)

/-- JSR, Absolute: opcode $20 (R190, R69). -/
def execJsr (w : Word) (s : State) : Host.Outcome State Fault Refusal := .next (opJsr w s)

/-- RTI, Implied: opcode $40 (R191, R72). -/
def execRti (s : State) : Host.Outcome State Fault Refusal := .next (opRti s)

/-- RTS, Implied: opcode $60 (R192, R72). -/
def execRts (s : State) : Host.Outcome State Fault Refusal := .next (opRts s)

end Sys2Proof.Machine
end

