-- ==== Sys2Proof/Machine/DataTransfer.lean ====
section
/-! DEFINITION. Data transfer: LDA, LDX, LDY, STA, STX, STY (R100 to R105). -/

namespace Sys2Proof.Machine

/-- LDA (R100). -/
def opLda (o : Src) (s : State) : State :=
  let s := s.advance (srcLength o)
  let m := srcValue o s
  { s with a := m }.setNZ m

/-- LDX (R101). -/
def opLdx (o : Src) (s : State) : State :=
  let s := s.advance (srcLength o)
  let m := srcValue o s
  { s with x := m }.setNZ m

/-- LDY (R102). -/
def opLdy (o : Src) (s : State) : State :=
  let s := s.advance (srcLength o)
  let m := srcValue o s
  { s with y := m }.setNZ m

/-- STA (R103): the destination is not read first. -/
def opSta (m : MemMode) (s : State) : State :=
  let s := s.advance (memLength m)
  s.write (effAddr m s) s.a

/-- STX (R104): the destination is not read first. -/
def opStx (m : MemMode) (s : State) : State :=
  let s := s.advance (memLength m)
  s.write (effAddr m s) s.x

/-- STY (R105): the destination is not read first. -/
def opSty (m : MemMode) (s : State) : State :=
  let s := s.advance (memLength m)
  s.write (effAddr m s) s.y

/-- LDA, (Indirect,X): opcode $A1 (R100, R74). -/
def execLdaIndX (b : Byte) (s : State) : Host.Outcome State Fault Refusal := .next (opLda (.mem (.indX b)) s)

/-- LDA, Zero Page: opcode $A5 (R100, R66). -/
def execLdaZp (b : Byte) (s : State) : Host.Outcome State Fault Refusal := .next (opLda (.mem (.zp b)) s)

/-- LDA, Immediate: opcode $A9 (R100, R65). -/
def execLdaImm (b : Byte) (s : State) : Host.Outcome State Fault Refusal := .next (opLda (.imm b) s)

/-- LDA, Absolute: opcode $AD (R100, R69). -/
def execLdaAbs (w : Word) (s : State) : Host.Outcome State Fault Refusal := .next (opLda (.mem (.abs w)) s)

/-- LDA, (Indirect),Y: opcode $B1 (R100, R75). -/
def execLdaIndY (b : Byte) (s : State) : Host.Outcome State Fault Refusal := .next (opLda (.mem (.indY b)) s)

/-- LDA, Zero Page,X: opcode $B5 (R100, R67). -/
def execLdaZpX (b : Byte) (s : State) : Host.Outcome State Fault Refusal := .next (opLda (.mem (.zpX b)) s)

/-- LDA, Absolute,Y: opcode $B9 (R100, R71). -/
def execLdaAbsY (w : Word) (s : State) : Host.Outcome State Fault Refusal := .next (opLda (.mem (.absY w)) s)

/-- LDA, Absolute,X: opcode $BD (R100, R70). -/
def execLdaAbsX (w : Word) (s : State) : Host.Outcome State Fault Refusal := .next (opLda (.mem (.absX w)) s)

/-- LDX, Immediate: opcode $A2 (R101, R65). -/
def execLdxImm (b : Byte) (s : State) : Host.Outcome State Fault Refusal := .next (opLdx (.imm b) s)

/-- LDX, Zero Page: opcode $A6 (R101, R66). -/
def execLdxZp (b : Byte) (s : State) : Host.Outcome State Fault Refusal := .next (opLdx (.mem (.zp b)) s)

/-- LDX, Absolute: opcode $AE (R101, R69). -/
def execLdxAbs (w : Word) (s : State) : Host.Outcome State Fault Refusal := .next (opLdx (.mem (.abs w)) s)

/-- LDX, Zero Page,Y: opcode $B6 (R101, R68). -/
def execLdxZpY (b : Byte) (s : State) : Host.Outcome State Fault Refusal := .next (opLdx (.mem (.zpY b)) s)

/-- LDX, Absolute,Y: opcode $BE (R101, R71). -/
def execLdxAbsY (w : Word) (s : State) : Host.Outcome State Fault Refusal := .next (opLdx (.mem (.absY w)) s)

/-- LDY, Immediate: opcode $A0 (R102, R65). -/
def execLdyImm (b : Byte) (s : State) : Host.Outcome State Fault Refusal := .next (opLdy (.imm b) s)

/-- LDY, Zero Page: opcode $A4 (R102, R66). -/
def execLdyZp (b : Byte) (s : State) : Host.Outcome State Fault Refusal := .next (opLdy (.mem (.zp b)) s)

/-- LDY, Absolute: opcode $AC (R102, R69). -/
def execLdyAbs (w : Word) (s : State) : Host.Outcome State Fault Refusal := .next (opLdy (.mem (.abs w)) s)

/-- LDY, Zero Page,X: opcode $B4 (R102, R67). -/
def execLdyZpX (b : Byte) (s : State) : Host.Outcome State Fault Refusal := .next (opLdy (.mem (.zpX b)) s)

/-- LDY, Absolute,X: opcode $BC (R102, R70). -/
def execLdyAbsX (w : Word) (s : State) : Host.Outcome State Fault Refusal := .next (opLdy (.mem (.absX w)) s)

/-- STA, (Indirect,X): opcode $81 (R103, R74). -/
def execStaIndX (b : Byte) (s : State) : Host.Outcome State Fault Refusal := .next (opSta (.indX b) s)

/-- STA, Zero Page: opcode $85 (R103, R66). -/
def execStaZp (b : Byte) (s : State) : Host.Outcome State Fault Refusal := .next (opSta (.zp b) s)

/-- STA, Absolute: opcode $8D (R103, R69). -/
def execStaAbs (w : Word) (s : State) : Host.Outcome State Fault Refusal := .next (opSta (.abs w) s)

/-- STA, (Indirect),Y: opcode $91 (R103, R75). -/
def execStaIndY (b : Byte) (s : State) : Host.Outcome State Fault Refusal := .next (opSta (.indY b) s)

/-- STA, Zero Page,X: opcode $95 (R103, R67). -/
def execStaZpX (b : Byte) (s : State) : Host.Outcome State Fault Refusal := .next (opSta (.zpX b) s)

/-- STA, Absolute,Y: opcode $99 (R103, R71). -/
def execStaAbsY (w : Word) (s : State) : Host.Outcome State Fault Refusal := .next (opSta (.absY w) s)

/-- STA, Absolute,X: opcode $9D (R103, R70). -/
def execStaAbsX (w : Word) (s : State) : Host.Outcome State Fault Refusal := .next (opSta (.absX w) s)

/-- STX, Zero Page: opcode $86 (R104, R66). -/
def execStxZp (b : Byte) (s : State) : Host.Outcome State Fault Refusal := .next (opStx (.zp b) s)

/-- STX, Absolute: opcode $8E (R104, R69). -/
def execStxAbs (w : Word) (s : State) : Host.Outcome State Fault Refusal := .next (opStx (.abs w) s)

/-- STX, Zero Page,Y: opcode $96 (R104, R68). -/
def execStxZpY (b : Byte) (s : State) : Host.Outcome State Fault Refusal := .next (opStx (.zpY b) s)

/-- STY, Zero Page: opcode $84 (R105, R66). -/
def execStyZp (b : Byte) (s : State) : Host.Outcome State Fault Refusal := .next (opSty (.zp b) s)

/-- STY, Absolute: opcode $8C (R105, R69). -/
def execStyAbs (w : Word) (s : State) : Host.Outcome State Fault Refusal := .next (opSty (.abs w) s)

/-- STY, Zero Page,X: opcode $94 (R105, R67). -/
def execStyZpX (b : Byte) (s : State) : Host.Outcome State Fault Refusal := .next (opSty (.zpX b) s)

end Sys2Proof.Machine
end

