-- ==== Sys2Proof/Machine/IncDec.lean ====
section
/-! DEFINITION. Increment and decrement: DEC, DEX, DEY, INC, INX, INY (R130 to R135). D has no effect on them. -/

namespace Sys2Proof.Machine

/-- DEC (R130): one read and one write of the same address, modulo 256 (R57). -/
def opDec (m : MemMode) (s : State) : State :=
  let s := s.advance (memLength m)
  let r := memOperand m s - 1
  (s.write (effAddr m s) r).setNZ r

/-- DEX (R131): modulo 256. -/
def opDex (s : State) : State :=
  let s := s.advance 1
  let r := s.x - 1
  { s with x := r }.setNZ r

/-- DEY (R132): modulo 256. -/
def opDey (s : State) : State :=
  let s := s.advance 1
  let r := s.y - 1
  { s with y := r }.setNZ r

/-- INC (R133): one read and one write of the same address, modulo 256 (R57). -/
def opInc (m : MemMode) (s : State) : State :=
  let s := s.advance (memLength m)
  let r := memOperand m s + 1
  (s.write (effAddr m s) r).setNZ r

/-- INX (R134): modulo 256. -/
def opInx (s : State) : State :=
  let s := s.advance 1
  let r := s.x + 1
  { s with x := r }.setNZ r

/-- INY (R135): modulo 256. -/
def opIny (s : State) : State :=
  let s := s.advance 1
  let r := s.y + 1
  { s with y := r }.setNZ r

/-- DEC, Zero Page: opcode $C6 (R130, R66). -/
def execDecZp (b : Byte) (s : State) : Host.Outcome State Fault Refusal := .next (opDec (.zp b) s)

/-- DEC, Absolute: opcode $CE (R130, R69). -/
def execDecAbs (w : Word) (s : State) : Host.Outcome State Fault Refusal := .next (opDec (.abs w) s)

/-- DEC, Zero Page,X: opcode $D6 (R130, R67). -/
def execDecZpX (b : Byte) (s : State) : Host.Outcome State Fault Refusal := .next (opDec (.zpX b) s)

/-- DEC, Absolute,X: opcode $DE (R130, R70). -/
def execDecAbsX (w : Word) (s : State) : Host.Outcome State Fault Refusal := .next (opDec (.absX w) s)

/-- DEX, Implied: opcode $CA (R131, R72). -/
def execDex (s : State) : Host.Outcome State Fault Refusal := .next (opDex s)

/-- DEY, Implied: opcode $88 (R132, R72). -/
def execDey (s : State) : Host.Outcome State Fault Refusal := .next (opDey s)

/-- INC, Zero Page: opcode $E6 (R133, R66). -/
def execIncZp (b : Byte) (s : State) : Host.Outcome State Fault Refusal := .next (opInc (.zp b) s)

/-- INC, Absolute: opcode $EE (R133, R69). -/
def execIncAbs (w : Word) (s : State) : Host.Outcome State Fault Refusal := .next (opInc (.abs w) s)

/-- INC, Zero Page,X: opcode $F6 (R133, R67). -/
def execIncZpX (b : Byte) (s : State) : Host.Outcome State Fault Refusal := .next (opInc (.zpX b) s)

/-- INC, Absolute,X: opcode $FE (R133, R70). -/
def execIncAbsX (w : Word) (s : State) : Host.Outcome State Fault Refusal := .next (opInc (.absX w) s)

/-- INX, Implied: opcode $E8 (R134, R72). -/
def execInx (s : State) : Host.Outcome State Fault Refusal := .next (opInx s)

/-- INY, Implied: opcode $C8 (R135, R72). -/
def execIny (s : State) : Host.Outcome State Fault Refusal := .next (opIny s)

end Sys2Proof.Machine
end

