-- ==== Sys2Proof/Machine/Logical.lean ====
section
/-! DEFINITION. Logical: AND, EOR, ORA (R150 to R152). -/

namespace Sys2Proof.Machine

/-- AND (R150). -/
def opAnd (o : Src) (s : State) : State :=
  let s := s.advance (srcLength o)
  let r := s.a &&& srcValue o s
  { s with a := r }.setNZ r

/-- EOR (R151). -/
def opEor (o : Src) (s : State) : State :=
  let s := s.advance (srcLength o)
  let r := s.a ^^^ srcValue o s
  { s with a := r }.setNZ r

/-- ORA (R152). -/
def opOra (o : Src) (s : State) : State :=
  let s := s.advance (srcLength o)
  let r := s.a ||| srcValue o s
  { s with a := r }.setNZ r

/-- AND, (Indirect,X): opcode $21 (R150, R74). -/
def execAndIndX (b : Byte) (s : State) : Host.Outcome State Fault Refusal := .next (opAnd (.mem (.indX b)) s)

/-- AND, Zero Page: opcode $25 (R150, R66). -/
def execAndZp (b : Byte) (s : State) : Host.Outcome State Fault Refusal := .next (opAnd (.mem (.zp b)) s)

/-- AND, Immediate: opcode $29 (R150, R65). -/
def execAndImm (b : Byte) (s : State) : Host.Outcome State Fault Refusal := .next (opAnd (.imm b) s)

/-- AND, Absolute: opcode $2D (R150, R69). -/
def execAndAbs (w : Word) (s : State) : Host.Outcome State Fault Refusal := .next (opAnd (.mem (.abs w)) s)

/-- AND, (Indirect),Y: opcode $31 (R150, R75). -/
def execAndIndY (b : Byte) (s : State) : Host.Outcome State Fault Refusal := .next (opAnd (.mem (.indY b)) s)

/-- AND, Zero Page,X: opcode $35 (R150, R67). -/
def execAndZpX (b : Byte) (s : State) : Host.Outcome State Fault Refusal := .next (opAnd (.mem (.zpX b)) s)

/-- AND, Absolute,Y: opcode $39 (R150, R71). -/
def execAndAbsY (w : Word) (s : State) : Host.Outcome State Fault Refusal := .next (opAnd (.mem (.absY w)) s)

/-- AND, Absolute,X: opcode $3D (R150, R70). -/
def execAndAbsX (w : Word) (s : State) : Host.Outcome State Fault Refusal := .next (opAnd (.mem (.absX w)) s)

/-- EOR, (Indirect,X): opcode $41 (R151, R74). -/
def execEorIndX (b : Byte) (s : State) : Host.Outcome State Fault Refusal := .next (opEor (.mem (.indX b)) s)

/-- EOR, Zero Page: opcode $45 (R151, R66). -/
def execEorZp (b : Byte) (s : State) : Host.Outcome State Fault Refusal := .next (opEor (.mem (.zp b)) s)

/-- EOR, Immediate: opcode $49 (R151, R65). -/
def execEorImm (b : Byte) (s : State) : Host.Outcome State Fault Refusal := .next (opEor (.imm b) s)

/-- EOR, Absolute: opcode $4D (R151, R69). -/
def execEorAbs (w : Word) (s : State) : Host.Outcome State Fault Refusal := .next (opEor (.mem (.abs w)) s)

/-- EOR, (Indirect),Y: opcode $51 (R151, R75). -/
def execEorIndY (b : Byte) (s : State) : Host.Outcome State Fault Refusal := .next (opEor (.mem (.indY b)) s)

/-- EOR, Zero Page,X: opcode $55 (R151, R67). -/
def execEorZpX (b : Byte) (s : State) : Host.Outcome State Fault Refusal := .next (opEor (.mem (.zpX b)) s)

/-- EOR, Absolute,Y: opcode $59 (R151, R71). -/
def execEorAbsY (w : Word) (s : State) : Host.Outcome State Fault Refusal := .next (opEor (.mem (.absY w)) s)

/-- EOR, Absolute,X: opcode $5D (R151, R70). -/
def execEorAbsX (w : Word) (s : State) : Host.Outcome State Fault Refusal := .next (opEor (.mem (.absX w)) s)

/-- ORA, (Indirect,X): opcode $01 (R152, R74). -/
def execOraIndX (b : Byte) (s : State) : Host.Outcome State Fault Refusal := .next (opOra (.mem (.indX b)) s)

/-- ORA, Zero Page: opcode $05 (R152, R66). -/
def execOraZp (b : Byte) (s : State) : Host.Outcome State Fault Refusal := .next (opOra (.mem (.zp b)) s)

/-- ORA, Immediate: opcode $09 (R152, R65). -/
def execOraImm (b : Byte) (s : State) : Host.Outcome State Fault Refusal := .next (opOra (.imm b) s)

/-- ORA, Absolute: opcode $0D (R152, R69). -/
def execOraAbs (w : Word) (s : State) : Host.Outcome State Fault Refusal := .next (opOra (.mem (.abs w)) s)

/-- ORA, (Indirect),Y: opcode $11 (R152, R75). -/
def execOraIndY (b : Byte) (s : State) : Host.Outcome State Fault Refusal := .next (opOra (.mem (.indY b)) s)

/-- ORA, Zero Page,X: opcode $15 (R152, R67). -/
def execOraZpX (b : Byte) (s : State) : Host.Outcome State Fault Refusal := .next (opOra (.mem (.zpX b)) s)

/-- ORA, Absolute,Y: opcode $19 (R152, R71). -/
def execOraAbsY (w : Word) (s : State) : Host.Outcome State Fault Refusal := .next (opOra (.mem (.absY w)) s)

/-- ORA, Absolute,X: opcode $1D (R152, R70). -/
def execOraAbsX (w : Word) (s : State) : Host.Outcome State Fault Refusal := .next (opOra (.mem (.absX w)) s)

end Sys2Proof.Machine
end

