-- ==== Sys2Proof/Machine/RegisterTransfer.lean ====
section
/-! DEFINITION. Register transfer: TAX, TAY, TXA, TYA, TSX, TXS (R110 to R115). -/

namespace Sys2Proof.Machine

/-- TAX (R110). -/
def opTax (s : State) : State :=
  let s := s.advance 1
  { s with x := s.a }.setNZ s.a

/-- TAY (R111). -/
def opTay (s : State) : State :=
  let s := s.advance 1
  { s with y := s.a }.setNZ s.a

/-- TXA (R112). -/
def opTxa (s : State) : State :=
  let s := s.advance 1
  { s with a := s.x }.setNZ s.x

/-- TYA (R113). -/
def opTya (s : State) : State :=
  let s := s.advance 1
  { s with a := s.y }.setNZ s.y

/-- TSX (R114). -/
def opTsx (s : State) : State :=
  let s := s.advance 1
  { s with x := s.sp }.setNZ s.sp

/-- TXS (R115): no flag is written. -/
def opTxs (s : State) : State :=
  let s := s.advance 1
  { s with sp := s.x }

/-- TAX, Implied: opcode $AA (R110, R72). -/
def execTax (s : State) : Host.Outcome State Fault Refusal := .next (opTax s)

/-- TAY, Implied: opcode $A8 (R111, R72). -/
def execTay (s : State) : Host.Outcome State Fault Refusal := .next (opTay s)

/-- TXA, Implied: opcode $8A (R112, R72). -/
def execTxa (s : State) : Host.Outcome State Fault Refusal := .next (opTxa s)

/-- TYA, Implied: opcode $98 (R113, R72). -/
def execTya (s : State) : Host.Outcome State Fault Refusal := .next (opTya s)

/-- TSX, Implied: opcode $BA (R114, R72). -/
def execTsx (s : State) : Host.Outcome State Fault Refusal := .next (opTsx s)

/-- TXS, Implied: opcode $9A (R115, R72). -/
def execTxs (s : State) : Host.Outcome State Fault Refusal := .next (opTxs s)

end Sys2Proof.Machine
end

