-- ==== Sys2Proof/Machine/RotateShift.lean ====
section
/-! DEFINITION. Rotate and shift: ASL, LSR, ROL, ROR (R140 to R143). -/

namespace Sys2Proof.Machine

/-- Shift a place by `f`: the result goes back to the place, the bit shifted out to C, Z and N follow the result. -/
def shiftPlace (f : Byte → ShiftResult) (p : Place) (s : State) : State :=
  let r := f (placeValue p s)
  { placeStore p r.r s with c := r.c }.setNZ r.r

/-- ASL (R140). -/
def opAsl (p : Place) (s : State) : State :=
  let s := s.advance (placeLength p)
  shiftPlace aslResult p s

/-- LSR (R141). -/
def opLsr (p : Place) (s : State) : State :=
  let s := s.advance (placeLength p)
  shiftPlace lsrResult p s

/-- ROL (R142): the bit shifted in is the C before the instruction. -/
def opRol (p : Place) (s : State) : State :=
  let s := s.advance (placeLength p)
  shiftPlace (rolResult s.c) p s

/-- ROR (R143): the bit shifted in is the C before the instruction. -/
def opRor (p : Place) (s : State) : State :=
  let s := s.advance (placeLength p)
  shiftPlace (rorResult s.c) p s

/-- ASL, Zero Page: opcode $06 (R140, R66). -/
def execAslZp (b : Byte) (s : State) : Host.Outcome State Fault Refusal := .next (opAsl (.mem (.zp b)) s)

/-- ASL, Accumulator: opcode $0A (R140, R64). -/
def execAslAcc (s : State) : Host.Outcome State Fault Refusal := .next (opAsl .acc s)

/-- ASL, Absolute: opcode $0E (R140, R69). -/
def execAslAbs (w : Word) (s : State) : Host.Outcome State Fault Refusal := .next (opAsl (.mem (.abs w)) s)

/-- ASL, Zero Page,X: opcode $16 (R140, R67). -/
def execAslZpX (b : Byte) (s : State) : Host.Outcome State Fault Refusal := .next (opAsl (.mem (.zpX b)) s)

/-- ASL, Absolute,X: opcode $1E (R140, R70). -/
def execAslAbsX (w : Word) (s : State) : Host.Outcome State Fault Refusal := .next (opAsl (.mem (.absX w)) s)

/-- LSR, Zero Page: opcode $46 (R141, R66). -/
def execLsrZp (b : Byte) (s : State) : Host.Outcome State Fault Refusal := .next (opLsr (.mem (.zp b)) s)

/-- LSR, Accumulator: opcode $4A (R141, R64). -/
def execLsrAcc (s : State) : Host.Outcome State Fault Refusal := .next (opLsr .acc s)

/-- LSR, Absolute: opcode $4E (R141, R69). -/
def execLsrAbs (w : Word) (s : State) : Host.Outcome State Fault Refusal := .next (opLsr (.mem (.abs w)) s)

/-- LSR, Zero Page,X: opcode $56 (R141, R67). -/
def execLsrZpX (b : Byte) (s : State) : Host.Outcome State Fault Refusal := .next (opLsr (.mem (.zpX b)) s)

/-- LSR, Absolute,X: opcode $5E (R141, R70). -/
def execLsrAbsX (w : Word) (s : State) : Host.Outcome State Fault Refusal := .next (opLsr (.mem (.absX w)) s)

/-- ROL, Zero Page: opcode $26 (R142, R66). -/
def execRolZp (b : Byte) (s : State) : Host.Outcome State Fault Refusal := .next (opRol (.mem (.zp b)) s)

/-- ROL, Accumulator: opcode $2A (R142, R64). -/
def execRolAcc (s : State) : Host.Outcome State Fault Refusal := .next (opRol .acc s)

/-- ROL, Absolute: opcode $2E (R142, R69). -/
def execRolAbs (w : Word) (s : State) : Host.Outcome State Fault Refusal := .next (opRol (.mem (.abs w)) s)

/-- ROL, Zero Page,X: opcode $36 (R142, R67). -/
def execRolZpX (b : Byte) (s : State) : Host.Outcome State Fault Refusal := .next (opRol (.mem (.zpX b)) s)

/-- ROL, Absolute,X: opcode $3E (R142, R70). -/
def execRolAbsX (w : Word) (s : State) : Host.Outcome State Fault Refusal := .next (opRol (.mem (.absX w)) s)

/-- ROR, Zero Page: opcode $66 (R143, R66). -/
def execRorZp (b : Byte) (s : State) : Host.Outcome State Fault Refusal := .next (opRor (.mem (.zp b)) s)

/-- ROR, Accumulator: opcode $6A (R143, R64). -/
def execRorAcc (s : State) : Host.Outcome State Fault Refusal := .next (opRor .acc s)

/-- ROR, Absolute: opcode $6E (R143, R69). -/
def execRorAbs (w : Word) (s : State) : Host.Outcome State Fault Refusal := .next (opRor (.mem (.abs w)) s)

/-- ROR, Zero Page,X: opcode $76 (R143, R67). -/
def execRorZpX (b : Byte) (s : State) : Host.Outcome State Fault Refusal := .next (opRor (.mem (.zpX b)) s)

/-- ROR, Absolute,X: opcode $7E (R143, R70). -/
def execRorAbsX (w : Word) (s : State) : Host.Outcome State Fault Refusal := .next (opRor (.mem (.absX w)) s)

end Sys2Proof.Machine
end

