-- ==== Sys2Proof/Machine/StackControl.lean ====
section
/-! DEFINITION. Stack and machine control: PHA, PHP, PLA, PLP, BRK, NOP (R200 to R205). -/

namespace Sys2Proof.Machine

/-- PHA (R200). -/
def opPha (s : State) : State :=
  let s := s.advance 1
  s.push s.a

/-- PHP (R201): the image has its break bit set. -/
def opPhp (s : State) : State :=
  let s := s.advance 1
  s.push (s.pImage true)

/-- PLA (R202). -/
def opPla (s : State) : State :=
  let s := s.advance 1
  let p := s.pull .pull1
  { p.2 with a := p.1 }.setNZ p.1

/-- PLP (R203). Where R229's delay is modelled the old I governs the next boundary. -/
def opPlp (s : State) : State :=
  let s := s.advance 1
  let p := s.pull .pull1
  (p.2.setP p.1).holdPolledI s.i

/-- BRK (R204): trap entry with the address of the opcode plus 2, break bit 1, through `VEC_IRQ`. -/
def opBrk (s : State) : State :=
  let s := s.advance 1
  s.trapEntry (s.pc + 1) true s.cfg.vecIrq

/-- NOP (R205). -/
def opNop (s : State) : State := s.advance 1

/-- PHA, Implied: opcode $48 (R200, R72). -/
def execPha (s : State) : Host.Outcome State Fault Refusal := .next (opPha s)

/-- PHP, Implied: opcode $08 (R201, R72). -/
def execPhp (s : State) : Host.Outcome State Fault Refusal := .next (opPhp s)

/-- PLA, Implied: opcode $68 (R202, R72). -/
def execPla (s : State) : Host.Outcome State Fault Refusal := .next (opPla s)

/-- PLP, Implied: opcode $28 (R203, R72). -/
def execPlp (s : State) : Host.Outcome State Fault Refusal := .next (opPlp s)

/-- BRK, Implied: opcode $00 (R204, R72). -/
def execBrk (s : State) : Host.Outcome State Fault Refusal := .next (opBrk s)

/-- NOP, Implied: opcode $EA (R205, R72). -/
def execNop (s : State) : Host.Outcome State Fault Refusal := .next (opNop s)

end Sys2Proof.Machine
end

