-- ==== Sys2Proof/Machine/StatusFlags.lean ====
section
/-! DEFINITION. Status flags: CLC, CLD, CLI, CLV, SEC, SED, SEI (R160 to R166). -/

namespace Sys2Proof.Machine

/-- CLC (R160). -/
def opClc (s : State) : State :=
  let s := s.advance 1
  { s with c := false }

/-- CLD (R161). -/
def opCld (s : State) : State :=
  let s := s.advance 1
  { s with d := false }

/-- CLI (R162). Where R229's delay is modelled the old I governs the next boundary. -/
def opCli (s : State) : State :=
  let s := s.advance 1
  { s with i := false }.holdPolledI s.i

/-- CLV (R163). -/
def opClv (s : State) : State :=
  let s := s.advance 1
  { s with v := false }

/-- SEC (R164). -/
def opSec (s : State) : State :=
  let s := s.advance 1
  { s with c := true }

/-- SED (R165). -/
def opSed (s : State) : State :=
  let s := s.advance 1
  { s with d := true }

/-- SEI (R166). Where R229's delay is modelled the old I governs the next boundary. -/
def opSei (s : State) : State :=
  let s := s.advance 1
  { s with i := true }.holdPolledI s.i

/-- CLC, Implied: opcode $18 (R160, R72). -/
def execClc (s : State) : Host.Outcome State Fault Refusal := .next (opClc s)

/-- CLD, Implied: opcode $D8 (R161, R72). -/
def execCld (s : State) : Host.Outcome State Fault Refusal := .next (opCld s)

/-- CLI, Implied: opcode $58 (R162, R72). -/
def execCli (s : State) : Host.Outcome State Fault Refusal := .next (opCli s)

/-- CLV, Implied: opcode $B8 (R163, R72). -/
def execClv (s : State) : Host.Outcome State Fault Refusal := .next (opClv s)

/-- SEC, Implied: opcode $38 (R164, R72). -/
def execSec (s : State) : Host.Outcome State Fault Refusal := .next (opSec s)

/-- SED, Implied: opcode $F8 (R165, R72). -/
def execSed (s : State) : Host.Outcome State Fault Refusal := .next (opSed s)

/-- SEI, Implied: opcode $78 (R166, R72). -/
def execSei (s : State) : Host.Outcome State Fault Refusal := .next (opSei s)

end Sys2Proof.Machine
end

