-- ==== Sys2Proof/Decode.lean ====
section
/-! DEFINITION. The decoder, from the 16 by 16 opcode grid of R77, and after it the encoder, from the Encoding lines of
the instruction rules R100 to R205. -/

namespace Sys2Proof

/-- What an opcode byte says: the instruction, once its operand bytes are known (formats F1, F2, F3 of R60). -/
inductive OpcodeEntry where
  | noOperand (i : Instr)
  | byteOperand (f : Byte → Instr)
  | wordOperand (f : Word → Instr)

/-- Row `0x` of R77's grid. -/
def gridRow0 : List (Byte × OpcodeEntry) :=
  [(0x00, .noOperand .brk), (0x01, .byteOperand .oraIndX), (0x05, .byteOperand .oraZp),
   (0x06, .byteOperand .aslZp), (0x08, .noOperand .php), (0x09, .byteOperand .oraImm),
   (0x0A, .noOperand .aslAcc), (0x0D, .wordOperand .oraAbs), (0x0E, .wordOperand .aslAbs)]

/-- Row `1x` of R77's grid. -/
def gridRow1 : List (Byte × OpcodeEntry) :=
  [(0x10, .byteOperand .bpl), (0x11, .byteOperand .oraIndY), (0x15, .byteOperand .oraZpX),
   (0x16, .byteOperand .aslZpX), (0x18, .noOperand .clc), (0x19, .wordOperand .oraAbsY),
   (0x1D, .wordOperand .oraAbsX), (0x1E, .wordOperand .aslAbsX)]

/-- Row `2x` of R77's grid. -/
def gridRow2 : List (Byte × OpcodeEntry) :=
  [(0x20, .wordOperand .jsr), (0x21, .byteOperand .andIndX), (0x24, .byteOperand .bitZp),
   (0x25, .byteOperand .andZp), (0x26, .byteOperand .rolZp), (0x28, .noOperand .plp),
   (0x29, .byteOperand .andImm), (0x2A, .noOperand .rolAcc), (0x2C, .wordOperand .bitAbs),
   (0x2D, .wordOperand .andAbs), (0x2E, .wordOperand .rolAbs)]

/-- Row `3x` of R77's grid. -/
def gridRow3 : List (Byte × OpcodeEntry) :=
  [(0x30, .byteOperand .bmi), (0x31, .byteOperand .andIndY), (0x35, .byteOperand .andZpX),
   (0x36, .byteOperand .rolZpX), (0x38, .noOperand .sec), (0x39, .wordOperand .andAbsY),
   (0x3D, .wordOperand .andAbsX), (0x3E, .wordOperand .rolAbsX)]

/-- Row `4x` of R77's grid. -/
def gridRow4 : List (Byte × OpcodeEntry) :=
  [(0x40, .noOperand .rti), (0x41, .byteOperand .eorIndX), (0x45, .byteOperand .eorZp),
   (0x46, .byteOperand .lsrZp), (0x48, .noOperand .pha), (0x49, .byteOperand .eorImm),
   (0x4A, .noOperand .lsrAcc), (0x4C, .wordOperand .jmpAbs), (0x4D, .wordOperand .eorAbs),
   (0x4E, .wordOperand .lsrAbs)]

/-- Row `5x` of R77's grid. -/
def gridRow5 : List (Byte × OpcodeEntry) :=
  [(0x50, .byteOperand .bvc), (0x51, .byteOperand .eorIndY), (0x55, .byteOperand .eorZpX),
   (0x56, .byteOperand .lsrZpX), (0x58, .noOperand .cli), (0x59, .wordOperand .eorAbsY),
   (0x5D, .wordOperand .eorAbsX), (0x5E, .wordOperand .lsrAbsX)]

/-- Row `6x` of R77's grid. -/
def gridRow6 : List (Byte × OpcodeEntry) :=
  [(0x60, .noOperand .rts), (0x61, .byteOperand .adcIndX), (0x65, .byteOperand .adcZp),
   (0x66, .byteOperand .rorZp), (0x68, .noOperand .pla), (0x69, .byteOperand .adcImm),
   (0x6A, .noOperand .rorAcc), (0x6C, .wordOperand .jmpInd), (0x6D, .wordOperand .adcAbs),
   (0x6E, .wordOperand .rorAbs)]

/-- Row `7x` of R77's grid. -/
def gridRow7 : List (Byte × OpcodeEntry) :=
  [(0x70, .byteOperand .bvs), (0x71, .byteOperand .adcIndY), (0x75, .byteOperand .adcZpX),
   (0x76, .byteOperand .rorZpX), (0x78, .noOperand .sei), (0x79, .wordOperand .adcAbsY),
   (0x7D, .wordOperand .adcAbsX), (0x7E, .wordOperand .rorAbsX)]

/-- Row `8x` of R77's grid. -/
def gridRow8 : List (Byte × OpcodeEntry) :=
  [(0x81, .byteOperand .staIndX), (0x84, .byteOperand .styZp), (0x85, .byteOperand .staZp),
   (0x86, .byteOperand .stxZp), (0x88, .noOperand .dey), (0x8A, .noOperand .txa), (0x8C, .wordOperand .styAbs),
   (0x8D, .wordOperand .staAbs), (0x8E, .wordOperand .stxAbs)]

/-- Row `9x` of R77's grid. -/
def gridRow9 : List (Byte × OpcodeEntry) :=
  [(0x90, .byteOperand .bcc), (0x91, .byteOperand .staIndY), (0x94, .byteOperand .styZpX),
   (0x95, .byteOperand .staZpX), (0x96, .byteOperand .stxZpY), (0x98, .noOperand .tya),
   (0x99, .wordOperand .staAbsY), (0x9A, .noOperand .txs), (0x9D, .wordOperand .staAbsX)]

/-- Row `Ax` of R77's grid. -/
def gridRowA : List (Byte × OpcodeEntry) :=
  [(0xA0, .byteOperand .ldyImm), (0xA1, .byteOperand .ldaIndX), (0xA2, .byteOperand .ldxImm),
   (0xA4, .byteOperand .ldyZp), (0xA5, .byteOperand .ldaZp), (0xA6, .byteOperand .ldxZp),
   (0xA8, .noOperand .tay), (0xA9, .byteOperand .ldaImm), (0xAA, .noOperand .tax),
   (0xAC, .wordOperand .ldyAbs), (0xAD, .wordOperand .ldaAbs), (0xAE, .wordOperand .ldxAbs)]

/-- Row `Bx` of R77's grid. -/
def gridRowB : List (Byte × OpcodeEntry) :=
  [(0xB0, .byteOperand .bcs), (0xB1, .byteOperand .ldaIndY), (0xB4, .byteOperand .ldyZpX),
   (0xB5, .byteOperand .ldaZpX), (0xB6, .byteOperand .ldxZpY), (0xB8, .noOperand .clv),
   (0xB9, .wordOperand .ldaAbsY), (0xBA, .noOperand .tsx), (0xBC, .wordOperand .ldyAbsX),
   (0xBD, .wordOperand .ldaAbsX), (0xBE, .wordOperand .ldxAbsY)]

/-- Row `Cx` of R77's grid. -/
def gridRowC : List (Byte × OpcodeEntry) :=
  [(0xC0, .byteOperand .cpyImm), (0xC1, .byteOperand .cmpIndX), (0xC4, .byteOperand .cpyZp),
   (0xC5, .byteOperand .cmpZp), (0xC6, .byteOperand .decZp), (0xC8, .noOperand .iny),
   (0xC9, .byteOperand .cmpImm), (0xCA, .noOperand .dex), (0xCC, .wordOperand .cpyAbs),
   (0xCD, .wordOperand .cmpAbs), (0xCE, .wordOperand .decAbs)]

/-- Row `Dx` of R77's grid. -/
def gridRowD : List (Byte × OpcodeEntry) :=
  [(0xD0, .byteOperand .bne), (0xD1, .byteOperand .cmpIndY), (0xD5, .byteOperand .cmpZpX),
   (0xD6, .byteOperand .decZpX), (0xD8, .noOperand .cld), (0xD9, .wordOperand .cmpAbsY),
   (0xDD, .wordOperand .cmpAbsX), (0xDE, .wordOperand .decAbsX)]

/-- Row `Ex` of R77's grid. -/
def gridRowE : List (Byte × OpcodeEntry) :=
  [(0xE0, .byteOperand .cpxImm), (0xE1, .byteOperand .sbcIndX), (0xE4, .byteOperand .cpxZp),
   (0xE5, .byteOperand .sbcZp), (0xE6, .byteOperand .incZp), (0xE8, .noOperand .inx),
   (0xE9, .byteOperand .sbcImm), (0xEA, .noOperand .nop), (0xEC, .wordOperand .cpxAbs),
   (0xED, .wordOperand .sbcAbs), (0xEE, .wordOperand .incAbs)]

/-- Row `Fx` of R77's grid. -/
def gridRowF : List (Byte × OpcodeEntry) :=
  [(0xF0, .byteOperand .beq), (0xF1, .byteOperand .sbcIndY), (0xF5, .byteOperand .sbcZpX),
   (0xF6, .byteOperand .incZpX), (0xF8, .noOperand .sed), (0xF9, .wordOperand .sbcAbsY),
   (0xFD, .wordOperand .sbcAbsX), (0xFE, .wordOperand .incAbsX)]

/-- The opcode map (R77, which is R61 rearranged). A byte it lacks is unassigned (R79). -/
def opcodeGrid : List (Byte × OpcodeEntry) :=
  gridRow0 ++ gridRow1 ++ gridRow2 ++ gridRow3 ++ gridRow4 ++ gridRow5 ++ gridRow6 ++ gridRow7
  ++ gridRow8 ++ gridRow9 ++ gridRowA ++ gridRowB ++ gridRowC ++ gridRowD ++ gridRowE ++ gridRowF

/-- Why bytes are no instruction. -/
inductive DecodeError where
  /-- The opcode byte is one of the 105 that R79 lists. -/
  | unassigned (opcode : Byte)
  /-- The bytes end before the instruction does. -/
  | truncated
  deriving DecidableEq, Repr

/-- The row of the opcode map for an opcode byte. -/
def lookupOpcode (op : Byte) : Option OpcodeEntry :=
  (opcodeGrid.find? (fun row => row.1 == op)).map Prod.snd

/-- Decode the instruction at the head of a byte string and give back the bytes after it. The operand word is stored
low byte first (R60). -/
def decode : List Byte → Except DecodeError (Instr × List Byte)
  | [] => .error .truncated
  | op :: rest =>
    match lookupOpcode op with
    | none => .error (.unassigned op)
    | some (.noOperand i) => .ok (i, rest)
    | some (.byteOperand f) =>
      match rest with
      | b1 :: rest => .ok (f b1, rest)
      | [] => .error .truncated
    | some (.wordOperand f) =>
      match rest with
      | b1 :: b2 :: rest => .ok (f (Machine.word b2 b1), rest)
      | _ => .error .truncated

/-- The bytes of an instruction whose bits are `w`, numbered as spec/opcode_table.json numbers them: the first byte is
bits 7..0. Bits from `nbits` on are 0; three bytes, the longest instruction, are given. -/
def tableBytes (nbits w : Nat) : List Byte :=
  let v := w % 2 ^ nbits
  [BitVec.ofNat 8 v, BitVec.ofNat 8 (v / 256), BitVec.ofNat 8 (v / 65536)]

/-- The instruction the decoder reads from an instruction whose bits are `w` (`tableBytes`). -/
def decodeTableWord (nbits w : Nat) : Option Instr :=
  match decode (tableBytes nbits w) with
  | .ok (i, _) => some i
  | .error _ => none

/-- The opcode byte of an instruction (the Encoding lines of R100 to R205). -/
def Instr.opcode : Instr → Byte
  | .ldaIndX _ => 0xA1
  | .ldaZp _ => 0xA5
  | .ldaImm _ => 0xA9
  | .ldaAbs _ => 0xAD
  | .ldaIndY _ => 0xB1
  | .ldaZpX _ => 0xB5
  | .ldaAbsY _ => 0xB9
  | .ldaAbsX _ => 0xBD
  | .ldxImm _ => 0xA2
  | .ldxZp _ => 0xA6
  | .ldxAbs _ => 0xAE
  | .ldxZpY _ => 0xB6
  | .ldxAbsY _ => 0xBE
  | .ldyImm _ => 0xA0
  | .ldyZp _ => 0xA4
  | .ldyAbs _ => 0xAC
  | .ldyZpX _ => 0xB4
  | .ldyAbsX _ => 0xBC
  | .staIndX _ => 0x81
  | .staZp _ => 0x85
  | .staAbs _ => 0x8D
  | .staIndY _ => 0x91
  | .staZpX _ => 0x95
  | .staAbsY _ => 0x99
  | .staAbsX _ => 0x9D
  | .stxZp _ => 0x86
  | .stxAbs _ => 0x8E
  | .stxZpY _ => 0x96
  | .styZp _ => 0x84
  | .styAbs _ => 0x8C
  | .styZpX _ => 0x94
  | .tax => 0xAA
  | .tay => 0xA8
  | .txa => 0x8A
  | .tya => 0x98
  | .tsx => 0xBA
  | .txs => 0x9A
  | .adcIndX _ => 0x61
  | .adcZp _ => 0x65
  | .adcImm _ => 0x69
  | .adcAbs _ => 0x6D
  | .adcIndY _ => 0x71
  | .adcZpX _ => 0x75
  | .adcAbsY _ => 0x79
  | .adcAbsX _ => 0x7D
  | .sbcIndX _ => 0xE1
  | .sbcZp _ => 0xE5
  | .sbcImm _ => 0xE9
  | .sbcAbs _ => 0xED
  | .sbcIndY _ => 0xF1
  | .sbcZpX _ => 0xF5
  | .sbcAbsY _ => 0xF9
  | .sbcAbsX _ => 0xFD
  | .decZp _ => 0xC6
  | .decAbs _ => 0xCE
  | .decZpX _ => 0xD6
  | .decAbsX _ => 0xDE
  | .dex => 0xCA
  | .dey => 0x88
  | .incZp _ => 0xE6
  | .incAbs _ => 0xEE
  | .incZpX _ => 0xF6
  | .incAbsX _ => 0xFE
  | .inx => 0xE8
  | .iny => 0xC8
  | .aslZp _ => 0x06
  | .aslAcc => 0x0A
  | .aslAbs _ => 0x0E
  | .aslZpX _ => 0x16
  | .aslAbsX _ => 0x1E
  | .lsrZp _ => 0x46
  | .lsrAcc => 0x4A
  | .lsrAbs _ => 0x4E
  | .lsrZpX _ => 0x56
  | .lsrAbsX _ => 0x5E
  | .rolZp _ => 0x26
  | .rolAcc => 0x2A
  | .rolAbs _ => 0x2E
  | .rolZpX _ => 0x36
  | .rolAbsX _ => 0x3E
  | .rorZp _ => 0x66
  | .rorAcc => 0x6A
  | .rorAbs _ => 0x6E
  | .rorZpX _ => 0x76
  | .rorAbsX _ => 0x7E
  | .andIndX _ => 0x21
  | .andZp _ => 0x25
  | .andImm _ => 0x29
  | .andAbs _ => 0x2D
  | .andIndY _ => 0x31
  | .andZpX _ => 0x35
  | .andAbsY _ => 0x39
  | .andAbsX _ => 0x3D
  | .eorIndX _ => 0x41
  | .eorZp _ => 0x45
  | .eorImm _ => 0x49
  | .eorAbs _ => 0x4D
  | .eorIndY _ => 0x51
  | .eorZpX _ => 0x55
  | .eorAbsY _ => 0x59
  | .eorAbsX _ => 0x5D
  | .oraIndX _ => 0x01
  | .oraZp _ => 0x05
  | .oraImm _ => 0x09
  | .oraAbs _ => 0x0D
  | .oraIndY _ => 0x11
  | .oraZpX _ => 0x15
  | .oraAbsY _ => 0x19
  | .oraAbsX _ => 0x1D
  | .clc => 0x18
  | .cld => 0xD8
  | .cli => 0x58
  | .clv => 0xB8
  | .sec => 0x38
  | .sed => 0xF8
  | .sei => 0x78
  | .bitZp _ => 0x24
  | .bitAbs _ => 0x2C
  | .cmpIndX _ => 0xC1
  | .cmpZp _ => 0xC5
  | .cmpImm _ => 0xC9
  | .cmpAbs _ => 0xCD
  | .cmpIndY _ => 0xD1
  | .cmpZpX _ => 0xD5
  | .cmpAbsY _ => 0xD9
  | .cmpAbsX _ => 0xDD
  | .cpxImm _ => 0xE0
  | .cpxZp _ => 0xE4
  | .cpxAbs _ => 0xEC
  | .cpyImm _ => 0xC0
  | .cpyZp _ => 0xC4
  | .cpyAbs _ => 0xCC
  | .bcc _ => 0x90
  | .bcs _ => 0xB0
  | .beq _ => 0xF0
  | .bmi _ => 0x30
  | .bne _ => 0xD0
  | .bpl _ => 0x10
  | .bvc _ => 0x50
  | .bvs _ => 0x70
  | .jmpAbs _ => 0x4C
  | .jmpInd _ => 0x6C
  | .jsr _ => 0x20
  | .rti => 0x40
  | .rts => 0x60
  | .pha => 0x48
  | .php => 0x08
  | .pla => 0x68
  | .plp => 0x28
  | .brk => 0x00
  | .nop => 0xEA

/-- The operand bytes of an operand, low byte first (R60, R63). -/
def Operand.bytes : Operand → List Byte
  | .implied | .accumulator => []
  | .immediate b | .relative b => [b]
  | .memory (.zp b) | .memory (.zpX b) | .memory (.zpY b) | .memory (.indX b) | .memory (.indY b) => [b]
  | .memory (.abs w) | .memory (.absX w) | .memory (.absY w) | .indirect w => [Machine.lo w, Machine.hi w]

/-- The bytes of an instruction: its opcode byte, then its operand bytes (R60). -/
def encode (i : Instr) : List Byte := i.opcode :: i.form.operand.bytes

end Sys2Proof
end

