-- ==== Sys2Proof/Machine/Fetch.lean ====
section
/-! DEFINITION. Fetching an instruction (R62, R56), and placing one where the next fetch finds it. -/

namespace Sys2Proof.Machine

/-- Fetch and decode at PC (R62): the opcode byte first, then only as many operand bytes as its format has, at addresses
modulo 65536. An unassigned opcode byte is given back as the error (R79). -/
def State.fetchInstr (s : State) : Except Byte Instr :=
  let op := s.read .opcode s.pc
  match lookupOpcode op with
  | none => .error op
  | some (.noOperand i) => .ok i
  | some (.byteOperand f) => .ok (f (s.read .operand1 (s.pc + 1)))
  | some (.wordOperand f) => .ok (f (word (s.read .operand2 (s.pc + 2)) (s.read .operand1 (s.pc + 1))))

/-- What a step does with an unassigned opcode byte at PC, by `ILLEGAL_OPCODE` (R79, D13, U1; log 16). -/
def State.unassigned (op : Byte) (s : State) : Host.Outcome State Fault Refusal :=
  match s.cfg.illegalOpcode with
  | .fault => .fault (.illegalOpcode op s.pc)
  | .unconstrained => .next s.anyEffect

/-- The three bytes at PC: the longest instruction (R60, R62). -/
def State.bytesAtPC (s : State) : List Byte :=
  [s.read .opcode s.pc, s.read .operand1 (s.pc + 1), s.read .operand2 (s.pc + 2)]

/-- Put bytes into memory from outside the machine, at addresses modulo 65536. -/
def placeBytes : List Byte → Word → Memory → Memory
  | [], _, m => m
  | b :: bs, a, m => placeBytes bs (a + 1) (Memory.write m a.toNat b)

/-- The state with these bytes at PC and no event ready at the next boundary (log 3). -/
def State.placeAtPC (bs : List Byte) (s : State) : State :=
  { s with mem := placeBytes bs s.pc s.mem, nmiPending := false, irqLine := false, resetRequest := false, env := [] }

end Sys2Proof.Machine
end

