-- ==== Sys2Proof/Machine/Step.lean ====
section
/-! DEFINITION. One step of the machine (R223), and placing an instruction where it is fetched next. -/

namespace Sys2Proof.Machine

/-- `Step` (R223): at the boundary, a reset, an NMI or an unmasked IRQ is taken; else one instruction is fetched and
executed. An unassigned opcode byte does what `ILLEGAL_OPCODE` says: by default it raises `IllegalOpcode(opcode, PC)`
(R79). -/
def step (s : State) : Host.Outcome State Fault Refusal :=
  let s := s.atBoundary
  match s.pendingEvent with
  | some e => .next (State.takeEvent e s)
  | none =>
    match s.fetchInstr with
    | .ok i => exec i s
    | .error op => s.unassigned op

/-- The state with the instruction whose bits are `w` (numbered as spec/opcode_table.json numbers them) stored at PC,
where the next step fetches it, and no event ready there. -/
def State.withFetchWord (s : State) (nbits w : Nat) : State := s.placeAtPC (tableBytes nbits w)

end Sys2Proof.Machine
end

