-- ==== Sys2Proof/Safety.lean ====
section
/-! DEFINITION. The terms in which claims are stated: the invariant, safe runs, the opcode bytes that stop a run, the
`HALT` parameter, what a trap leaves. -/

namespace Sys2Proof.Machine

/-- What every step keeps: memory in canonical form, and no delayed I unless R229's delay is modelled. -/
def State.inv (s : State) : Bool :=
  Memory.wf s.mem && (decide (s.cfg.irqLatency = .oneInstruction) || s.polledI.isNone)

/-- The state in which the operation of an instruction of `len` bytes runs: PC is `(p + len) mod 65536` (R62). The two
fields of the model's own move with it. -/
def State.pastInstr (len : Nat) (s : State) : State :=
  { s with pc := BitVec.ofNat 16 (s.pc.toNat + len), polledI := none, draws := s.draws + 1 }

/-- The whole stack page is RAM, as R262 asks of a platform. -/
def State.StackInRam (s : State) : Prop := ∀ b : Byte, s.classOf (word 0x01 b) = .ram

/-- Address `a` gives the byte stored there: its class is RAM or ROM (R43). -/
def State.StoredAt (s : State) (a : Word) : Prop := s.classOf a = .ram ∨ s.classOf a = .rom

/-- `t` is what `TrapEntry(ret, b, vector)` makes of `s` (R224): the return address and the image of P with break bit `b`
and the old I lie at `$0100 + S`, `$0100 + S - 1`, `$0100 + S - 2` (modulo 256 inside the page), every other byte is as
before, S is 3 lower, I is set, PC is the little-endian word at the vector, and nothing else has changed. -/
def TrapTaken (s : State) (ret : Word) (b : Bool) (vector : Word) (t : State) : Prop :=
  (∀ a : Nat, Memory.read t.mem a =
    if a = 0x100 + s.sp.toNat then hi ret
    else if a = 0x100 + (s.sp - 1).toNat then lo ret
    else if a = 0x100 + (s.sp - 2).toNat then s.pImage b
    else Memory.read s.mem a) ∧
  t = { s with sp := s.sp - 3, i := true, mem := t.mem,
               pc := word (t.read .vectorHigh (vector + 1)) (t.read .vectorLow vector) }

/-- The 105 unassigned opcode bytes, as R79 prints them. -/
def unassignedOpcodes : List Byte :=
  [0x02, 0x03, 0x04, 0x07, 0x0B, 0x0C, 0x0F, 0x12, 0x13, 0x14, 0x17, 0x1A, 0x1B, 0x1C, 0x1F, 0x22, 0x23, 0x27,
   0x2B, 0x2F, 0x32, 0x33, 0x34, 0x37, 0x3A, 0x3B, 0x3C, 0x3F, 0x42, 0x43, 0x44, 0x47, 0x4B, 0x4F, 0x52, 0x53,
   0x54, 0x57, 0x5A, 0x5B, 0x5C, 0x5F, 0x62, 0x63, 0x64, 0x67, 0x6B, 0x6F, 0x72, 0x73, 0x74, 0x77, 0x7A, 0x7B,
   0x7C, 0x7F, 0x80, 0x82, 0x83, 0x87, 0x89, 0x8B, 0x8F, 0x92, 0x93, 0x97, 0x9B, 0x9C, 0x9E, 0x9F, 0xA3, 0xA7,
   0xAB, 0xAF, 0xB2, 0xB3, 0xB7, 0xBB, 0xBF, 0xC2, 0xC3, 0xC7, 0xCB, 0xCF, 0xD2, 0xD3, 0xD4, 0xD7, 0xDA, 0xDB,
   0xDC, 0xDF, 0xE2, 0xE3, 0xE7, 0xEB, 0xEF, 0xF2, 0xF3, 0xF4, 0xF7, 0xFA, 0xFB, 0xFC, 0xFF]

/-- Run at most `k` steps, ending where the predicate `halt` holds at a boundary: the `HALT` parameter of R4, which
the harness supplies (D26). -/
def runUntil (halt : State → Bool) : Nat → State → Host.Outcome State Fault Refusal
  | 0, s => .next s
  | k + 1, s =>
    if halt s then .next s
    else
      match step s with
      | .next t => runUntil halt k t
      | .fault r => .fault r
      | .refused r => .refused r

/-- A run of `k` steps is safe when no step of it faults or is refused. -/
def SafeFor (k : Nat) (s : State) : Prop := ∃ t, runUntil (fun _ => false) k s = .next t

end Sys2Proof.Machine
end

