-- ==== Sys2Proof/WellFormed.lean ====
section
/-! DEFINITION. Well-formedness: which mnemonic has which addressing modes (R61). It is a check on a `Form`, what the
assembler writes. Every term of `Instr` passes it, because `Instr` has one constructor for each pair the table has and
its operand fields have the widths of R63 (Laws/Syntax.lean proves so). -/

namespace Sys2Proof

/-- The addressing modes a mnemonic accepts: the row of R61's table. -/
def Mnemonic.modes : Mnemonic → List Mode
  | .lda => [.immediate, .zeroPage, .zeroPageX, .absolute, .absoluteX, .absoluteY, .indirectX, .indirectY]
  | .ldx => [.immediate, .zeroPage, .zeroPageY, .absolute, .absoluteY]
  | .ldy => [.immediate, .zeroPage, .zeroPageX, .absolute, .absoluteX]
  | .sta => [.zeroPage, .zeroPageX, .absolute, .absoluteX, .absoluteY, .indirectX, .indirectY]
  | .stx => [.zeroPage, .zeroPageY, .absolute]
  | .sty => [.zeroPage, .zeroPageX, .absolute]
  | .tax => [.implied]
  | .tay => [.implied]
  | .txa => [.implied]
  | .tya => [.implied]
  | .tsx => [.implied]
  | .txs => [.implied]
  | .adc => [.immediate, .zeroPage, .zeroPageX, .absolute, .absoluteX, .absoluteY, .indirectX, .indirectY]
  | .sbc => [.immediate, .zeroPage, .zeroPageX, .absolute, .absoluteX, .absoluteY, .indirectX, .indirectY]
  | .dec => [.zeroPage, .zeroPageX, .absolute, .absoluteX]
  | .dex => [.implied]
  | .dey => [.implied]
  | .inc => [.zeroPage, .zeroPageX, .absolute, .absoluteX]
  | .inx => [.implied]
  | .iny => [.implied]
  | .asl => [.accumulator, .zeroPage, .zeroPageX, .absolute, .absoluteX]
  | .lsr => [.accumulator, .zeroPage, .zeroPageX, .absolute, .absoluteX]
  | .rol => [.accumulator, .zeroPage, .zeroPageX, .absolute, .absoluteX]
  | .ror => [.accumulator, .zeroPage, .zeroPageX, .absolute, .absoluteX]
  | .and => [.immediate, .zeroPage, .zeroPageX, .absolute, .absoluteX, .absoluteY, .indirectX, .indirectY]
  | .eor => [.immediate, .zeroPage, .zeroPageX, .absolute, .absoluteX, .absoluteY, .indirectX, .indirectY]
  | .ora => [.immediate, .zeroPage, .zeroPageX, .absolute, .absoluteX, .absoluteY, .indirectX, .indirectY]
  | .clc => [.implied]
  | .cld => [.implied]
  | .cli => [.implied]
  | .clv => [.implied]
  | .sec => [.implied]
  | .sed => [.implied]
  | .sei => [.implied]
  | .bit => [.zeroPage, .absolute]
  | .cmp => [.immediate, .zeroPage, .zeroPageX, .absolute, .absoluteX, .absoluteY, .indirectX, .indirectY]
  | .cpx => [.immediate, .zeroPage, .absolute]
  | .cpy => [.immediate, .zeroPage, .absolute]
  | .bcc => [.relative]
  | .bcs => [.relative]
  | .beq => [.relative]
  | .bmi => [.relative]
  | .bne => [.relative]
  | .bpl => [.relative]
  | .bvc => [.relative]
  | .bvs => [.relative]
  | .jmp => [.absolute, .absoluteIndirect]
  | .jsr => [.absolute]
  | .rti => [.implied]
  | .rts => [.implied]
  | .pha => [.implied]
  | .php => [.implied]
  | .pla => [.implied]
  | .plp => [.implied]
  | .brk => [.implied]
  | .nop => [.implied]

/-- A form is well formed when R61's table has its mnemonic in its mode. -/
def Form.wellFormed (f : Form) : Bool := f.mnemonic.modes.contains f.operand.mode

/-- Well-formedness of an instruction: that of its form. -/
def Instr.wellFormed (i : Instr) : Bool := i.form.wellFormed

/-- The instruction a form stands for, where the table has one (R61, R81). -/
def assemble (m : Mnemonic) (o : Operand) : Option Instr :=
  match m with
  | .lda =>
    match o with
    | .memory (.indX b) => some (.ldaIndX b)
    | .memory (.zp b) => some (.ldaZp b)
    | .immediate b => some (.ldaImm b)
    | .memory (.abs w) => some (.ldaAbs w)
    | .memory (.indY b) => some (.ldaIndY b)
    | .memory (.zpX b) => some (.ldaZpX b)
    | .memory (.absY w) => some (.ldaAbsY w)
    | .memory (.absX w) => some (.ldaAbsX w)
    | _ => none
  | .ldx =>
    match o with
    | .immediate b => some (.ldxImm b)
    | .memory (.zp b) => some (.ldxZp b)
    | .memory (.abs w) => some (.ldxAbs w)
    | .memory (.zpY b) => some (.ldxZpY b)
    | .memory (.absY w) => some (.ldxAbsY w)
    | _ => none
  | .ldy =>
    match o with
    | .immediate b => some (.ldyImm b)
    | .memory (.zp b) => some (.ldyZp b)
    | .memory (.abs w) => some (.ldyAbs w)
    | .memory (.zpX b) => some (.ldyZpX b)
    | .memory (.absX w) => some (.ldyAbsX w)
    | _ => none
  | .sta =>
    match o with
    | .memory (.indX b) => some (.staIndX b)
    | .memory (.zp b) => some (.staZp b)
    | .memory (.abs w) => some (.staAbs w)
    | .memory (.indY b) => some (.staIndY b)
    | .memory (.zpX b) => some (.staZpX b)
    | .memory (.absY w) => some (.staAbsY w)
    | .memory (.absX w) => some (.staAbsX w)
    | _ => none
  | .stx =>
    match o with
    | .memory (.zp b) => some (.stxZp b)
    | .memory (.abs w) => some (.stxAbs w)
    | .memory (.zpY b) => some (.stxZpY b)
    | _ => none
  | .sty =>
    match o with
    | .memory (.zp b) => some (.styZp b)
    | .memory (.abs w) => some (.styAbs w)
    | .memory (.zpX b) => some (.styZpX b)
    | _ => none
  | .tax =>
    match o with
    | .implied => some .tax
    | _ => none
  | .tay =>
    match o with
    | .implied => some .tay
    | _ => none
  | .txa =>
    match o with
    | .implied => some .txa
    | _ => none
  | .tya =>
    match o with
    | .implied => some .tya
    | _ => none
  | .tsx =>
    match o with
    | .implied => some .tsx
    | _ => none
  | .txs =>
    match o with
    | .implied => some .txs
    | _ => none
  | .adc =>
    match o with
    | .memory (.indX b) => some (.adcIndX b)
    | .memory (.zp b) => some (.adcZp b)
    | .immediate b => some (.adcImm b)
    | .memory (.abs w) => some (.adcAbs w)
    | .memory (.indY b) => some (.adcIndY b)
    | .memory (.zpX b) => some (.adcZpX b)
    | .memory (.absY w) => some (.adcAbsY w)
    | .memory (.absX w) => some (.adcAbsX w)
    | _ => none
  | .sbc =>
    match o with
    | .memory (.indX b) => some (.sbcIndX b)
    | .memory (.zp b) => some (.sbcZp b)
    | .immediate b => some (.sbcImm b)
    | .memory (.abs w) => some (.sbcAbs w)
    | .memory (.indY b) => some (.sbcIndY b)
    | .memory (.zpX b) => some (.sbcZpX b)
    | .memory (.absY w) => some (.sbcAbsY w)
    | .memory (.absX w) => some (.sbcAbsX w)
    | _ => none
  | .dec =>
    match o with
    | .memory (.zp b) => some (.decZp b)
    | .memory (.abs w) => some (.decAbs w)
    | .memory (.zpX b) => some (.decZpX b)
    | .memory (.absX w) => some (.decAbsX w)
    | _ => none
  | .dex =>
    match o with
    | .implied => some .dex
    | _ => none
  | .dey =>
    match o with
    | .implied => some .dey
    | _ => none
  | .inc =>
    match o with
    | .memory (.zp b) => some (.incZp b)
    | .memory (.abs w) => some (.incAbs w)
    | .memory (.zpX b) => some (.incZpX b)
    | .memory (.absX w) => some (.incAbsX w)
    | _ => none
  | .inx =>
    match o with
    | .implied => some .inx
    | _ => none
  | .iny =>
    match o with
    | .implied => some .iny
    | _ => none
  | .asl =>
    match o with
    | .memory (.zp b) => some (.aslZp b)
    | .accumulator => some .aslAcc
    | .memory (.abs w) => some (.aslAbs w)
    | .memory (.zpX b) => some (.aslZpX b)
    | .memory (.absX w) => some (.aslAbsX w)
    | _ => none
  | .lsr =>
    match o with
    | .memory (.zp b) => some (.lsrZp b)
    | .accumulator => some .lsrAcc
    | .memory (.abs w) => some (.lsrAbs w)
    | .memory (.zpX b) => some (.lsrZpX b)
    | .memory (.absX w) => some (.lsrAbsX w)
    | _ => none
  | .rol =>
    match o with
    | .memory (.zp b) => some (.rolZp b)
    | .accumulator => some .rolAcc
    | .memory (.abs w) => some (.rolAbs w)
    | .memory (.zpX b) => some (.rolZpX b)
    | .memory (.absX w) => some (.rolAbsX w)
    | _ => none
  | .ror =>
    match o with
    | .memory (.zp b) => some (.rorZp b)
    | .accumulator => some .rorAcc
    | .memory (.abs w) => some (.rorAbs w)
    | .memory (.zpX b) => some (.rorZpX b)
    | .memory (.absX w) => some (.rorAbsX w)
    | _ => none
  | .and =>
    match o with
    | .memory (.indX b) => some (.andIndX b)
    | .memory (.zp b) => some (.andZp b)
    | .immediate b => some (.andImm b)
    | .memory (.abs w) => some (.andAbs w)
    | .memory (.indY b) => some (.andIndY b)
    | .memory (.zpX b) => some (.andZpX b)
    | .memory (.absY w) => some (.andAbsY w)
    | .memory (.absX w) => some (.andAbsX w)
    | _ => none
  | .eor =>
    match o with
    | .memory (.indX b) => some (.eorIndX b)
    | .memory (.zp b) => some (.eorZp b)
    | .immediate b => some (.eorImm b)
    | .memory (.abs w) => some (.eorAbs w)
    | .memory (.indY b) => some (.eorIndY b)
    | .memory (.zpX b) => some (.eorZpX b)
    | .memory (.absY w) => some (.eorAbsY w)
    | .memory (.absX w) => some (.eorAbsX w)
    | _ => none
  | .ora =>
    match o with
    | .memory (.indX b) => some (.oraIndX b)
    | .memory (.zp b) => some (.oraZp b)
    | .immediate b => some (.oraImm b)
    | .memory (.abs w) => some (.oraAbs w)
    | .memory (.indY b) => some (.oraIndY b)
    | .memory (.zpX b) => some (.oraZpX b)
    | .memory (.absY w) => some (.oraAbsY w)
    | .memory (.absX w) => some (.oraAbsX w)
    | _ => none
  | .clc =>
    match o with
    | .implied => some .clc
    | _ => none
  | .cld =>
    match o with
    | .implied => some .cld
    | _ => none
  | .cli =>
    match o with
    | .implied => some .cli
    | _ => none
  | .clv =>
    match o with
    | .implied => some .clv
    | _ => none
  | .sec =>
    match o with
    | .implied => some .sec
    | _ => none
  | .sed =>
    match o with
    | .implied => some .sed
    | _ => none
  | .sei =>
    match o with
    | .implied => some .sei
    | _ => none
  | .bit =>
    match o with
    | .memory (.zp b) => some (.bitZp b)
    | .memory (.abs w) => some (.bitAbs w)
    | _ => none
  | .cmp =>
    match o with
    | .memory (.indX b) => some (.cmpIndX b)
    | .memory (.zp b) => some (.cmpZp b)
    | .immediate b => some (.cmpImm b)
    | .memory (.abs w) => some (.cmpAbs w)
    | .memory (.indY b) => some (.cmpIndY b)
    | .memory (.zpX b) => some (.cmpZpX b)
    | .memory (.absY w) => some (.cmpAbsY w)
    | .memory (.absX w) => some (.cmpAbsX w)
    | _ => none
  | .cpx =>
    match o with
    | .immediate b => some (.cpxImm b)
    | .memory (.zp b) => some (.cpxZp b)
    | .memory (.abs w) => some (.cpxAbs w)
    | _ => none
  | .cpy =>
    match o with
    | .immediate b => some (.cpyImm b)
    | .memory (.zp b) => some (.cpyZp b)
    | .memory (.abs w) => some (.cpyAbs w)
    | _ => none
  | .bcc =>
    match o with
    | .relative b => some (.bcc b)
    | _ => none
  | .bcs =>
    match o with
    | .relative b => some (.bcs b)
    | _ => none
  | .beq =>
    match o with
    | .relative b => some (.beq b)
    | _ => none
  | .bmi =>
    match o with
    | .relative b => some (.bmi b)
    | _ => none
  | .bne =>
    match o with
    | .relative b => some (.bne b)
    | _ => none
  | .bpl =>
    match o with
    | .relative b => some (.bpl b)
    | _ => none
  | .bvc =>
    match o with
    | .relative b => some (.bvc b)
    | _ => none
  | .bvs =>
    match o with
    | .relative b => some (.bvs b)
    | _ => none
  | .jmp =>
    match o with
    | .memory (.abs w) => some (.jmpAbs w)
    | .indirect w => some (.jmpInd w)
    | _ => none
  | .jsr =>
    match o with
    | .memory (.abs w) => some (.jsr w)
    | _ => none
  | .rti =>
    match o with
    | .implied => some .rti
    | _ => none
  | .rts =>
    match o with
    | .implied => some .rts
    | _ => none
  | .pha =>
    match o with
    | .implied => some .pha
    | _ => none
  | .php =>
    match o with
    | .implied => some .php
    | _ => none
  | .pla =>
    match o with
    | .implied => some .pla
    | _ => none
  | .plp =>
    match o with
    | .implied => some .plp
    | _ => none
  | .brk =>
    match o with
    | .implied => some .brk
    | _ => none
  | .nop =>
    match o with
    | .implied => some .nop
    | _ => none

end Sys2Proof
end

