-- ==== Sys2Proof/Certificates/Slice0/Obligations.lean ====
section
/-! DEFINITION. The statements for the provers. `s.pastInstr n` is the state in which the operation of an instruction of
`n` bytes runs (R62): PC past it, and the model's own `polledI` and `draws` moved on. `assemble` gives the constructor
of a mnemonic and an operand, so that a statement about a mnemonic holds for every form R61's table has. -/

open Sys2Proof Sys2Proof.Machine

/-- A byte string decodes to instruction i with rest left over exactly when it is the encoding of i followed by rest:
for every one of the 151 constructors and every operand value, and for every byte string. (R60, R61.) -/
def Obligations.DecodeAcceptsExactlyTheEncodings : Prop :=
  ∀ (bytes : List Byte) (i : Instr) (rest : List Byte),
    decode bytes = .ok (i, rest) ↔ bytes = encode i ++ rest

/-- Two instructions with the same opcode byte have the same mnemonic, the same addressing mode and the same length,
and the encoding of an instruction has that length, which is 1, 2 or 3. (R60, R62.) -/
def Obligations.OpcodeSelectsInstructionModeAndLength : Prop :=
  ∀ i j : Instr, i.opcode = j.opcode →
    i.mnemonic = j.mnemonic ∧ i.mode = j.mode ∧ i.length = j.length ∧
    (encode i).length = i.length ∧ 1 ≤ i.length ∧ i.length ≤ 3

/-- The bytes R79 lists are exactly the bytes that are the opcode of no instruction, there are 105 of them, and where
no event is ready at the boundary and the byte fetched at PC is one of them, the step is the fault
IllegalOpcode(opcode, PC). Stated for ILLEGAL_OPCODE fault, the default R79 is written for (D13). (R79.) -/
def Obligations.UnassignedOpcodesRaiseIllegalOpcode : Prop :=
  (unassignedOpcodes.Nodup ∧ unassignedOpcodes.length = 105) ∧
  (∀ op : Byte, op ∈ unassignedOpcodes ↔ ∀ i : Instr, i.opcode ≠ op) ∧
  ∀ s : State, s.cfg.illegalOpcode = .fault →
    s.atBoundary.pendingEvent = none → s.atBoundary.read .opcode s.pc ∈ unassignedOpcodes →
    step s = .fault (.illegalOpcode (s.atBoundary.read .opcode s.pc) s.pc)

/-- Sanity: words written out from the encoding table decode as the table reads them, TYA and TSX by the resolution of
conflict C2 and ROL A and ROR A with one byte by C3. (R77.) -/
def Obligations.SpecWordsDecode : Prop :=
  decode [0xA9, 0x80] = .ok (.ldaImm 0x80, []) ∧ decode [0xAD, 0x34, 0x12] = .ok (.ldaAbs 0x1234, []) ∧
  decode [0x98] = .ok (.tya, []) ∧ decode [0xBA] = .ok (.tsx, []) ∧
  decode [0x2A] = .ok (.rolAcc, []) ∧ decode [0x6A] = .ok (.rorAcc, []) ∧
  decode [0x6C, 0xFF, 0x02] = .ok (.jmpInd 0x02FF, []) ∧ decode [0x90, 0x05] = .ok (.bcc 0x05, []) ∧
  decode [0x71, 0x20] = .ok (.adcIndY 0x20, []) ∧ decode [0x00] = .ok (.brk, []) ∧
  decode [0x9E, 0x00, 0x00] = .error (.unassigned 0x9E)

/-- Where no event is ready at the boundary and the bytes at PC decode to i, the step is exec of i at the state the
boundary left; exec itself moves PC past the instruction. (R62, R223.) -/
def Obligations.StepRunsTheDecodedInstruction : Prop :=
  ∀ (s : State) (i : Instr) (rest : List Byte),
    s.atBoundary.pendingEvent = none → decode s.atBoundary.bytesAtPC = .ok (i, rest) →
    step s = exec i s.atBoundary

/-- The model's choice (log 3): where the three cells at PC are RAM or ROM, the instruction that a table word decodes
to, placed by withFetchWord, is what the very next step executes. It rests on R62 and R42 for where the bytes are
fetched. -/
def Obligations.PlacedWordRunsNext : Prop :=
  ∀ (s : State) (nbits w : Nat) (i : Instr), s.inv = true →
    s.StoredAt s.pc → s.StoredAt (s.pc + 1) → s.StoredAt (s.pc + 2) →
    decodeTableWord nbits w = some i →
    step (s.withFetchWord nbits w) = exec i (s.withFetchWord nbits w)

/-- At the boundary, after the environment has chosen its inputs: a reset request is taken; else a pending NMI; else
an asserted IRQ line with I = 0; else one instruction is fetched and executed. Stated for IRQ_LATENCY_MODEL none, the
default R223 is written for, under the invariant. An unassigned opcode byte does what ILLEGAL_OPCODE says, by default
the fault of R79. (R223.) -/
def Obligations.BoundaryTakesResetThenNmiThenIrq : Prop :=
  ∀ s : State, s.inv = true → s.cfg.irqLatency = .none →
    let u := s.atBoundary
    step s =
      if u.resetRequest = true then .next u.resetEntry
      else if u.nmiPending = true then .next u.nmiEntry
      else if u.irqLine = true ∧ u.i = false then .next u.irqEntry
      else
        match u.fetchInstr with
        | .ok i => exec i u
        | .error op => if s.cfg.illegalOpcode = .fault then .fault (.illegalOpcode op u.pc) else u.unassigned op

/-- The model's form of the environment (log 13): at a boundary the next choice sets the two levels, an NMI edge sets
nmi_pending and a second edge while it is set is not counted, and with no choice left nothing changes. It rests on R27
and R223. -/
def Obligations.EnvironmentChoosesAtEachBoundary : Prop :=
  ∀ (s : State) (e : BoundaryInputs) (rest : List BoundaryInputs),
    (s.env = [] → s.atBoundary = s) ∧
    (s.env = e :: rest →
      s.atBoundary = { s with env := rest, irqLine := e.irq, resetRequest := e.reset,
                              nmiPending := decide (s.nmiPending = true ∨ e.nmiEdge = true) })

/-- SetNZ(v) makes Z equal to "v is 0" and N equal to bit 7 of v, and changes nothing else. (R24.) -/
def Obligations.SetNZFollowsTheByte : Prop :=
  ∀ (s : State) (v : Byte),
    s.setNZ v = { s with z := decide (v.toNat = 0), n := decide (128 ≤ v.toNat) }

/-- PImage(b) is N*128 + V*64 + 32 + b*16 + D*8 + I*4 + Z*2 + C, its bits are N V 1 b D I Z C, and SetP(v) loads the
six flags from bits 7, 6, 3, 2, 1, 0 of v, discards bits 5 and 4 and changes nothing else. (R23.) -/
def Obligations.StatusImageLayout : Prop :=
  (∀ (s : State) (b : Bool),
    (s.pImage b).toNat =
      bit s.n * 128 + bit s.v * 64 + 32 + bit b * 16 + bit s.d * 8 + bit s.i * 4 + bit s.z * 2 + bit s.c ∧
    (s.pImage b).getLsbD 7 = s.n ∧ (s.pImage b).getLsbD 6 = s.v ∧ (s.pImage b).getLsbD 5 = true ∧
    (s.pImage b).getLsbD 4 = b ∧ (s.pImage b).getLsbD 3 = s.d ∧ (s.pImage b).getLsbD 2 = s.i ∧
    (s.pImage b).getLsbD 1 = s.z ∧ (s.pImage b).getLsbD 0 = s.c) ∧
  ∀ (s : State) (v : Byte),
    s.setP v = { s with n := v.getLsbD 7, v := v.getLsbD 6, d := v.getLsbD 3, i := v.getLsbD 2,
                        z := v.getLsbD 1, c := v.getLsbD 0 }

/-- RAM and ROM read the stored byte; a write to RAM changes that one cell and nothing else; a write to ROM or
UNMAPPED has no effect, and neither has one to DEVICE, for which the model has no device (log 10). A read that is any
is left open. (R43, U4, U5.) -/
def Obligations.MemoryClassesReadAndWrite : Prop :=
  ∀ (s : State) (a : Word) (v : Byte) (k : Access), s.inv = true →
    (s.StoredAt a → s.read k a = Memory.read s.mem a.toNat) ∧
    (s.classOf a = .ram →
      s.write a v = { s with mem := (s.write a v).mem } ∧ Memory.wf (s.write a v).mem = true ∧
      ∀ a' : Nat, Memory.read (s.write a v).mem a' = if a' = a.toNat then v else Memory.read s.mem a') ∧
    (s.classOf a = .rom ∨ s.classOf a = .unmapped ∨ s.classOf a = .device → s.write a v = s)

/-- Push(v) writes v at $0100 + S and leaves S one lower modulo 256; Pull() makes S one higher modulo 256 and gives
the byte at $0100 + S, changing no cell; Push16 pushes the high byte first, Pull16 pulls the low byte first; a pull
directly after a push gives the byte back and restores S. Stated where the stack page is RAM; StackWritesByClassOfCell
and StackReadsByClassOfCell say it for cells of every class. (R46, R47, R48.) -/
def Obligations.PushAndPullUseTheStackPage : Prop :=
  ∀ (s : State) (v : Byte) (w : Word) (k k' : Access), s.inv = true → s.StackInRam →
    (s.push v = { s with mem := (s.push v).mem, sp := BitVec.ofNat 8 (s.sp.toNat + 255) } ∧
      ∀ a : Nat, Memory.read (s.push v).mem a = if a = 0x100 + s.sp.toNat then v else Memory.read s.mem a) ∧
    (s.pull k).1 = Memory.read s.mem (0x100 + (s.sp.toNat + 1) % 256) ∧
    (s.pull k).2 = { s with sp := BitVec.ofNat 8 (s.sp.toNat + 1) } ∧
    s.push16 w = (s.push (hi w)).push (lo w) ∧
    (s.pull16 k k').1 = word (((s.pull k).2).pull k').1 (s.pull k).1 ∧
    (s.pull16 k k').2 = ((s.pull k).2.pull k').2 ∧
    ((s.push v).pull k).1 = v ∧ ((s.push v).pull k).2.sp = s.sp

/-- Zero-page sums wrap modulo 256, absolute sums modulo 65536; the pointer of (Indirect,X) and (Indirect),Y is read
low byte first inside the zero page, its second byte at (z + 1) mod 256. The two indirect modes are stated where their
pointer bytes are RAM or ROM. (R66 to R71, R74, R75, R44.) -/
def Obligations.EffectiveAddressesWrapAsStated : Prop :=
  ∀ (s : State) (b : Byte) (w : Word),
    let zp (k : Nat) : Nat := (Memory.read s.mem (k % 256)).toNat
    let stored (k : Nat) : Prop := s.StoredAt (BitVec.ofNat 16 (k % 256))
    (effAddr (.zp b) s).toNat = b.toNat ∧
    (effAddr (.zpX b) s).toNat = (b.toNat + s.x.toNat) % 256 ∧
    (effAddr (.zpY b) s).toNat = (b.toNat + s.y.toNat) % 256 ∧
    effAddr (.abs w) s = w ∧
    (effAddr (.absX w) s).toNat = (w.toNat + s.x.toNat) % 65536 ∧
    (effAddr (.absY w) s).toNat = (w.toNat + s.y.toNat) % 65536 ∧
    (stored (b.toNat + s.x.toNat) → stored (b.toNat + s.x.toNat + 1) →
      (effAddr (.indX b) s).toNat = zp (b.toNat + s.x.toNat + 1) * 256 + zp (b.toNat + s.x.toNat)) ∧
    (stored b.toNat → stored (b.toNat + 1) →
      (effAddr (.indY b) s).toNat = (zp (b.toNat + 1) * 256 + zp b.toNat + s.y.toNat) % 65536)

/-- In every addressing mode of its rule, a load puts the operand into its register, sets Z when it is 0 and N from
its bit 7, moves PC past the instruction and changes nothing else; the encodings are those of the rules. (R100 to
R102.) -/
def Obligations.LoadsReadTheOperandAndSetNZ : Prop :=
  (∀ (b : Byte) (w : Word),
    encode (.ldaIndX b) = [0xA1, b] ∧ encode (.ldaZp b) = [0xA5, b] ∧ encode (.ldaImm b) = [0xA9, b] ∧
    encode (.ldaAbs w) = [0xAD, lo w, hi w] ∧ encode (.ldaIndY b) = [0xB1, b] ∧ encode (.ldaZpX b) = [0xB5, b] ∧
    encode (.ldaAbsY w) = [0xB9, lo w, hi w] ∧ encode (.ldaAbsX w) = [0xBD, lo w, hi w] ∧
    encode (.ldxImm b) = [0xA2, b] ∧ encode (.ldxZp b) = [0xA6, b] ∧ encode (.ldxAbs w) = [0xAE, lo w, hi w] ∧
    encode (.ldxZpY b) = [0xB6, b] ∧ encode (.ldxAbsY w) = [0xBE, lo w, hi w] ∧ encode (.ldyImm b) = [0xA0, b] ∧
    encode (.ldyZp b) = [0xA4, b] ∧ encode (.ldyAbs w) = [0xAC, lo w, hi w] ∧ encode (.ldyZpX b) = [0xB4, b] ∧
    encode (.ldyAbsX w) = [0xBC, lo w, hi w]) ∧
  (∀ (o : Src) (i : Instr) (s : State), assemble .lda o.operand = some i →
    let u := s.pastInstr i.length
    let m := srcValue o u
    exec i s = .next { u with a := m, z := decide (m.toNat = 0), n := decide (128 ≤ m.toNat) }) ∧
  (∀ (o : Src) (i : Instr) (s : State), assemble .ldx o.operand = some i →
    let u := s.pastInstr i.length
    let m := srcValue o u
    exec i s = .next { u with x := m, z := decide (m.toNat = 0), n := decide (128 ≤ m.toNat) }) ∧
  (∀ (o : Src) (i : Instr) (s : State), assemble .ldy o.operand = some i →
    let u := s.pastInstr i.length
    let m := srcValue o u
    exec i s = .next { u with y := m, z := decide (m.toNat = 0), n := decide (128 ≤ m.toNat) })

/-- In every addressing mode of its rule, a store writes its register at the effective address where that is RAM
(elsewhere nothing is written), every other byte of memory is as before, PC moves past the instruction and no register
or flag changes; the encodings are those of the rules. That nothing is written at a DEVICE address is the model's
choice (DESIGN CHOICE, log 10; U5): R43 leaves it to the platform, and the rules name ROM and UNMAPPED only. (R103 to
R105.) -/
def Obligations.StoresWriteOneByteAtTheEffectiveAddress : Prop :=
  (∀ (b : Byte) (w : Word),
    encode (.staIndX b) = [0x81, b] ∧ encode (.staZp b) = [0x85, b] ∧ encode (.staAbs w) = [0x8D, lo w, hi w] ∧
    encode (.staIndY b) = [0x91, b] ∧ encode (.staZpX b) = [0x95, b] ∧ encode (.staAbsY w) = [0x99, lo w, hi w] ∧
    encode (.staAbsX w) = [0x9D, lo w, hi w] ∧ encode (.stxZp b) = [0x86, b] ∧
    encode (.stxAbs w) = [0x8E, lo w, hi w] ∧ encode (.stxZpY b) = [0x96, b] ∧ encode (.styZp b) = [0x84, b] ∧
    encode (.styAbs w) = [0x8C, lo w, hi w] ∧ encode (.styZpX b) = [0x94, b]) ∧
  (∀ (m : MemMode) (i : Instr) (s : State), s.inv = true → assemble .sta (.memory m) = some i →
    let u := s.pastInstr i.length
    ∃ t, exec i s = .next t ∧ t = { u with mem := t.mem } ∧
      ∀ a : Nat, Memory.read t.mem a =
        if a = (effAddr m u).toNat ∧ s.classOf (effAddr m u) = .ram then s.a else Memory.read s.mem a) ∧
  (∀ (m : MemMode) (i : Instr) (s : State), s.inv = true → assemble .stx (.memory m) = some i →
    let u := s.pastInstr i.length
    ∃ t, exec i s = .next t ∧ t = { u with mem := t.mem } ∧
      ∀ a : Nat, Memory.read t.mem a =
        if a = (effAddr m u).toNat ∧ s.classOf (effAddr m u) = .ram then s.x else Memory.read s.mem a) ∧
  (∀ (m : MemMode) (i : Instr) (s : State), s.inv = true → assemble .sty (.memory m) = some i →
    let u := s.pastInstr i.length
    ∃ t, exec i s = .next t ∧ t = { u with mem := t.mem } ∧
      ∀ a : Nat, Memory.read t.mem a =
        if a = (effAddr m u).toNat ∧ s.classOf (effAddr m u) = .ram then s.y else Memory.read s.mem a)

/-- Each transfer copies its source to its destination; all but TXS set Z and N from the value; nothing else changes
but PC; the encodings are those of the rules. (R110 to R115.) -/
def Obligations.TransfersCopyTheRegister : Prop :=
  (encode .tax = [0xAA] ∧ encode .tay = [0xA8] ∧ encode .txa = [0x8A] ∧ encode .tya = [0x98] ∧
    encode .tsx = [0xBA] ∧ encode .txs = [0x9A]) ∧
  ∀ s : State,
    let u := s.pastInstr 1
    exec .tax s = .next { u with x := s.a, z := decide (s.a.toNat = 0), n := decide (128 ≤ s.a.toNat) } ∧
    exec .tay s = .next { u with y := s.a, z := decide (s.a.toNat = 0), n := decide (128 ≤ s.a.toNat) } ∧
    exec .txa s = .next { u with a := s.x, z := decide (s.x.toNat = 0), n := decide (128 ≤ s.x.toNat) } ∧
    exec .tya s = .next { u with a := s.y, z := decide (s.y.toNat = 0), n := decide (128 ≤ s.y.toNat) } ∧
    exec .tsx s = .next { u with x := s.sp, z := decide (s.sp.toNat = 0), n := decide (128 ≤ s.sp.toNat) } ∧
    exec .txs s = .next { u with sp := s.x }

/-- AddBin(a, m, c) gives (a + m + c) mod 256, carry when the sum is 256 or more, and V exactly when the sum of the
two operands read as two's-complement numbers plus c lies outside -128..127; for a subtraction the carry is 1 exactly
when a - m - (1 - c) is not negative. (R122.) -/
def Obligations.BinaryAdderIsExact : Prop :=
  (∀ (a m : Byte) (c : Bool),
    (addBin a m c).a.toNat = (a.toNat + m.toNat + bit c) % 256 ∧
    ((addBin a m c).c = true ↔ 256 ≤ a.toNat + m.toNat + bit c) ∧
    (addBin a m c).v = ((a ^^^ (addBin a m c).a) &&& (m ^^^ (addBin a m c).a)).getLsbD 7 ∧
    ((addBin a m c).v = true ↔ ¬ (-128 ≤ a.toInt + m.toInt + bit c ∧ a.toInt + m.toInt + bit c ≤ 127))) ∧
  ∀ (a m : Byte) (c : Bool),
    ((addBin a (m ^^^ 0xFF) c).c = true ↔ 0 ≤ (a.toNat : Int) - m.toNat - (1 - (bit c : Int)))

/-- A byte is valid when both nibbles are at most 9, its value is then 10 times the high nibble plus the low one, a
value 0..99 packs to tens in the high nibble and units in the low one, and packing the value of a valid byte gives the
byte back. (R125.) -/
def Obligations.BcdHelpersAreInverse : Prop :=
  (∀ b : Byte,
    (bcdValid b = true ↔ b.toNat / 16 ≤ 9 ∧ b.toNat % 16 ≤ 9) ∧
    bcdValue b = 10 * (b.toNat / 16) + b.toNat % 16 ∧
    (bcdValid b = true → bcdValue b ≤ 99 ∧ toBcd (bcdValue b) = b)) ∧
  ∀ n : Nat, n ≤ 99 →
    (toBcd n).toNat = n / 10 * 16 + n % 10 ∧ bcdValid (toBcd n) = true ∧ bcdValue (toBcd n) = n

/-- In every addressing mode, ADC always completes. With D = 0: A is (A + m + C) mod 256, C the carry out, V the
signed overflow, Z and N those of the result. With D = 1 under valid_bcd_only: on valid BCD operands A is the decimal
sum modulo 100 and C its carry, N, V, Z open; on others A, C, N, V, Z open. Nothing else changes but PC; the encodings
are those of the rule. (R120, R123.) -/
def Obligations.AdcAddsWithCarry : Prop :=
  (∀ (b : Byte) (w : Word),
    encode (.adcIndX b) = [0x61, b] ∧ encode (.adcZp b) = [0x65, b] ∧ encode (.adcImm b) = [0x69, b] ∧
    encode (.adcAbs w) = [0x6D, lo w, hi w] ∧ encode (.adcIndY b) = [0x71, b] ∧ encode (.adcZpX b) = [0x75, b] ∧
    encode (.adcAbsY w) = [0x79, lo w, hi w] ∧ encode (.adcAbsX w) = [0x7D, lo w, hi w]) ∧
  ∀ (o : Src) (i : Instr) (s : State), assemble .adc o.operand = some i →
    let u := s.pastInstr i.length
    let m := srcValue o u
    let sum := s.a.toNat + m.toNat + bit s.c
    let signed := s.a.toInt + m.toInt + bit s.c
    let tens := bcdValue s.a + bcdValue m + bit s.c
    (s.d = false →
      exec i s = .next { u with a := BitVec.ofNat 8 sum, c := decide (256 ≤ sum), z := decide (sum % 256 = 0),
                                n := decide (128 ≤ sum % 256), v := decide (signed < -128 ∨ 127 < signed) }) ∧
    (s.d = true → s.cfg.decimalModel = .validBcdOnly →
      ∃ t, exec i s = .next t ∧ t = { u with a := t.a, c := t.c, z := t.z, v := t.v, n := t.n } ∧
        (bcdValid s.a = true → bcdValid m = true →
          t.a = toBcd (tens % 100) ∧ t.c = decide (100 ≤ tens)))

/-- In every addressing mode, SBC always completes. With D = 0: A is A - m - (1 - C) modulo 256, C is 1 exactly when
no borrow occurred, V exactly when the signed difference leaves -128..127, Z and N those of the result. With D = 1
under valid_bcd_only: on valid BCD operands A is the decimal difference (plus 100 on a borrow) and C no-borrow, N, V,
Z open; on others A, C, N, V, Z open. Nothing else changes but PC; the encodings are those of the rule. (R121, R124.)
-/
def Obligations.SbcSubtractsWithBorrow : Prop :=
  (∀ (b : Byte) (w : Word),
    encode (.sbcIndX b) = [0xE1, b] ∧ encode (.sbcZp b) = [0xE5, b] ∧ encode (.sbcImm b) = [0xE9, b] ∧
    encode (.sbcAbs w) = [0xED, lo w, hi w] ∧ encode (.sbcIndY b) = [0xF1, b] ∧ encode (.sbcZpX b) = [0xF5, b] ∧
    encode (.sbcAbsY w) = [0xF9, lo w, hi w] ∧ encode (.sbcAbsX w) = [0xFD, lo w, hi w]) ∧
  ∀ (o : Src) (i : Instr) (s : State), assemble .sbc o.operand = some i →
    let u := s.pastInstr i.length
    let m := srcValue o u
    let diff : Int := (s.a.toNat : Int) - m.toNat - (1 - (bit s.c : Int))
    let signed : Int := s.a.toInt - m.toInt - (1 - (bit s.c : Int))
    let tens : Int := (bcdValue s.a : Int) - bcdValue m - (1 - (bit s.c : Int))
    (s.d = false →
      exec i s = .next { u with a := BitVec.ofInt 8 diff, c := decide (0 ≤ diff), z := decide (diff % 256 = 0),
                                n := decide (128 ≤ diff % 256), v := decide (signed < -128 ∨ 127 < signed) }) ∧
    (s.d = true → s.cfg.decimalModel = .validBcdOnly →
      ∃ t, exec i s = .next t ∧ t = { u with a := t.a, c := t.c, z := t.z, v := t.v, n := t.n } ∧
        (bcdValid s.a = true → bcdValid m = true →
          t.a = toBcd (tens % 100).toNat ∧ t.c = decide (0 ≤ tens)))

/-- On every pair of valid BCD operands and every carry, the reference algorithm of U3 gives the A and C of R123 and
R124, whatever the draw of the open values. (U3 says it was checked exhaustively; the algorithm is PRESUMED, log 7.)
-/
def Obligations.NmosDecimalAgreesOnValidBcd : Prop :=
  ∀ (k : Nat) (a m : Byte) (c : Bool), bcdValid a = true → bcdValid m = true →
    (adcNmos a m c).a = (adcValidBcd k a m c).a ∧ (adcNmos a m c).c = (adcValidBcd k a m c).c ∧
    (sbcNmos a m c).a = (sbcValidBcd k a m c).a ∧ (sbcNmos a m c).c = (sbcValidBcd k a m c).c

/-- The model's reading of DECIMAL_MODEL = nmos (PRESUMED, log 7): with D = 1 every form of ADC and SBC completes and
writes A, C, Z, V, N as the reference algorithm of U3 computes them, nothing else but PC. -/
def Obligations.NmosDecimalModelCompletes : Prop :=
  ∀ (o : Src) (i : Instr) (s : State), s.d = true → s.cfg.decimalModel = .nmos →
    let u := s.pastInstr i.length
    let r := adcNmos s.a (srcValue o u) s.c
    let q := sbcNmos s.a (srcValue o u) s.c
    (assemble .adc o.operand = some i →
      exec i s = .next { u with a := r.a, c := r.c, z := r.z, v := r.v, n := r.n }) ∧
    (assemble .sbc o.operand = some i →
      exec i s = .next { u with a := q.a, c := q.c, z := q.z, v := q.v, n := q.n })

/-- In every addressing mode INC and DEC put the operand plus or minus 1 modulo 256 back at the effective address
where that is RAM (elsewhere nothing is written but the flags still follow the result), set Z and N from the result,
and leave every other byte of memory and everything else but PC unchanged; the encodings are those of the rules. That
nothing is written at a DEVICE address is the model's choice (DESIGN CHOICE, log 10; U5): R43 leaves it to the
platform, and the rules name ROM and UNMAPPED only. (R130, R133.) -/
def Obligations.IncDecMemoryInPlace : Prop :=
  (∀ (b : Byte) (w : Word),
    encode (.decZp b) = [0xC6, b] ∧ encode (.decAbs w) = [0xCE, lo w, hi w] ∧ encode (.decZpX b) = [0xD6, b] ∧
    encode (.decAbsX w) = [0xDE, lo w, hi w] ∧ encode (.incZp b) = [0xE6, b] ∧
    encode (.incAbs w) = [0xEE, lo w, hi w] ∧ encode (.incZpX b) = [0xF6, b] ∧
    encode (.incAbsX w) = [0xFE, lo w, hi w]) ∧
  (∀ (m : MemMode) (i : Instr) (s : State), s.inv = true → assemble .dec (.memory m) = some i →
    let u := s.pastInstr i.length
    let r := ((memOperand m u).toNat + 255) % 256
    ∃ t, exec i s = .next t ∧ t = { u with mem := t.mem, z := decide (r = 0), n := decide (128 ≤ r) } ∧
      ∀ a : Nat, Memory.read t.mem a =
        if a = (effAddr m u).toNat ∧ s.classOf (effAddr m u) = .ram then BitVec.ofNat 8 r else Memory.read s.mem a) ∧
  (∀ (m : MemMode) (i : Instr) (s : State), s.inv = true → assemble .inc (.memory m) = some i →
    let u := s.pastInstr i.length
    let r := ((memOperand m u).toNat + 1) % 256
    ∃ t, exec i s = .next t ∧ t = { u with mem := t.mem, z := decide (r = 0), n := decide (128 ≤ r) } ∧
      ∀ a : Nat, Memory.read t.mem a =
        if a = (effAddr m u).toNat ∧ s.classOf (effAddr m u) = .ram then BitVec.ofNat 8 r else Memory.read s.mem a)

/-- Each adds or subtracts 1 modulo 256 in its register, sets Z and N from the new value, and changes nothing else but
PC; C and V are not involved; the encodings are those of the rules. (R131, R132, R134, R135.) -/
def Obligations.IncDecIndexRegisters : Prop :=
  (encode .dex = [0xCA] ∧ encode .dey = [0x88] ∧ encode .inx = [0xE8] ∧ encode .iny = [0xC8]) ∧
  ∀ s : State,
    let u := s.pastInstr 1
    (let r := (s.x.toNat + 255) % 256
     exec .dex s = .next { u with x := BitVec.ofNat 8 r, z := decide (r = 0), n := decide (128 ≤ r) }) ∧
    (let r := (s.y.toNat + 255) % 256
     exec .dey s = .next { u with y := BitVec.ofNat 8 r, z := decide (r = 0), n := decide (128 ≤ r) }) ∧
    (let r := (s.x.toNat + 1) % 256
     exec .inx s = .next { u with x := BitVec.ofNat 8 r, z := decide (r = 0), n := decide (128 ≤ r) }) ∧
    (let r := (s.y.toNat + 1) % 256
     exec .iny s = .next { u with y := BitVec.ofNat 8 r, z := decide (r = 0), n := decide (128 ≤ r) })

/-- ASL doubles the operand modulo 256 with C from its bit 7; LSR halves it with C from its bit 0; Z and N follow the
result; the result goes back to A, or to the effective address where that is RAM (elsewhere nothing is written), every
other byte of memory and everything else but PC unchanged; the encodings are those of the rules. That nothing is
written at a DEVICE address is the model's choice (DESIGN CHOICE, log 10; U5): R43 leaves it to the platform, and the
rules name ROM and UNMAPPED only. (R140, R141.) -/
def Obligations.ShiftsMoveOneBitThroughCarry : Prop :=
  (∀ (b : Byte) (w : Word),
    encode (.aslZp b) = [0x06, b] ∧ encode .aslAcc = [0x0A] ∧ encode (.aslAbs w) = [0x0E, lo w, hi w] ∧
    encode (.aslZpX b) = [0x16, b] ∧ encode (.aslAbsX w) = [0x1E, lo w, hi w] ∧ encode (.lsrZp b) = [0x46, b] ∧
    encode .lsrAcc = [0x4A] ∧ encode (.lsrAbs w) = [0x4E, lo w, hi w] ∧ encode (.lsrZpX b) = [0x56, b] ∧
    encode (.lsrAbsX w) = [0x5E, lo w, hi w]) ∧
  (∀ s : State,
    let m := s.a.toNat
    let r := m * 2 % 256
    exec .aslAcc s = .next { s.pastInstr 1 with
      a := BitVec.ofNat 8 r, c := decide (128 ≤ m), z := decide (r = 0), n := decide (128 ≤ r) }) ∧
  (∀ (p : MemMode) (i : Instr) (s : State), s.inv = true → assemble .asl (.memory p) = some i →
    let u := s.pastInstr i.length
    let m := (memOperand p u).toNat
    let r := m * 2 % 256
    ∃ t, exec i s = .next t ∧
      t = { u with mem := t.mem, c := decide (128 ≤ m), z := decide (r = 0), n := decide (128 ≤ r) } ∧
      ∀ a : Nat, Memory.read t.mem a =
        if a = (effAddr p u).toNat ∧ s.classOf (effAddr p u) = .ram then BitVec.ofNat 8 r else Memory.read s.mem a) ∧
  (∀ s : State,
    let m := s.a.toNat
    let r := m / 2
    exec .lsrAcc s = .next { s.pastInstr 1 with
      a := BitVec.ofNat 8 r, c := decide (m % 2 = 1), z := decide (r = 0), n := decide (128 ≤ r) }) ∧
  (∀ (p : MemMode) (i : Instr) (s : State), s.inv = true → assemble .lsr (.memory p) = some i →
    let u := s.pastInstr i.length
    let m := (memOperand p u).toNat
    let r := m / 2
    ∃ t, exec i s = .next t ∧
      t = { u with mem := t.mem, c := decide (m % 2 = 1), z := decide (r = 0), n := decide (128 ≤ r) } ∧
      ∀ a : Nat, Memory.read t.mem a =
        if a = (effAddr p u).toNat ∧ s.classOf (effAddr p u) = .ram then BitVec.ofNat 8 r else Memory.read s.mem a)

/-- ROL doubles the operand modulo 256 and shifts the old C into bit 0, with C from the old bit 7; ROR halves it and
shifts the old C into bit 7, with C from the old bit 0; Z and N follow the result; the result goes back to A, or to
the effective address where that is RAM (elsewhere nothing is written), every other byte of memory and everything else
but PC unchanged; the encodings are those of the rules. That nothing is written at a DEVICE address is the model's
choice (DESIGN CHOICE, log 10; U5): R43 leaves it to the platform, and the rules name ROM and UNMAPPED only. (R142,
R143.) -/
def Obligations.RotatesMoveOneBitThroughCarry : Prop :=
  (∀ (b : Byte) (w : Word),
    encode (.rolZp b) = [0x26, b] ∧ encode .rolAcc = [0x2A] ∧ encode (.rolAbs w) = [0x2E, lo w, hi w] ∧
    encode (.rolZpX b) = [0x36, b] ∧ encode (.rolAbsX w) = [0x3E, lo w, hi w] ∧ encode (.rorZp b) = [0x66, b] ∧
    encode .rorAcc = [0x6A] ∧ encode (.rorAbs w) = [0x6E, lo w, hi w] ∧ encode (.rorZpX b) = [0x76, b] ∧
    encode (.rorAbsX w) = [0x7E, lo w, hi w]) ∧
  (∀ s : State,
    let m := s.a.toNat
    let r := m * 2 % 256 + bit s.c
    exec .rolAcc s = .next { s.pastInstr 1 with
      a := BitVec.ofNat 8 r, c := decide (128 ≤ m), z := decide (r = 0), n := decide (128 ≤ r) }) ∧
  (∀ (p : MemMode) (i : Instr) (s : State), s.inv = true → assemble .rol (.memory p) = some i →
    let u := s.pastInstr i.length
    let m := (memOperand p u).toNat
    let r := m * 2 % 256 + bit s.c
    ∃ t, exec i s = .next t ∧
      t = { u with mem := t.mem, c := decide (128 ≤ m), z := decide (r = 0), n := decide (128 ≤ r) } ∧
      ∀ a : Nat, Memory.read t.mem a =
        if a = (effAddr p u).toNat ∧ s.classOf (effAddr p u) = .ram then BitVec.ofNat 8 r else Memory.read s.mem a) ∧
  (∀ s : State,
    let m := s.a.toNat
    let r := m / 2 + 128 * bit s.c
    exec .rorAcc s = .next { s.pastInstr 1 with
      a := BitVec.ofNat 8 r, c := decide (m % 2 = 1), z := decide (r = 0), n := decide (128 ≤ r) }) ∧
  (∀ (p : MemMode) (i : Instr) (s : State), s.inv = true → assemble .ror (.memory p) = some i →
    let u := s.pastInstr i.length
    let m := (memOperand p u).toNat
    let r := m / 2 + 128 * bit s.c
    ∃ t, exec i s = .next t ∧
      t = { u with mem := t.mem, c := decide (m % 2 = 1), z := decide (r = 0), n := decide (128 ≤ r) } ∧
      ∀ a : Nat, Memory.read t.mem a =
        if a = (effAddr p u).toNat ∧ s.classOf (effAddr p u) = .ram then BitVec.ofNat 8 r else Memory.read s.mem a)

/-- In every addressing mode each bit of the new A is the AND, exclusive OR or OR of that bit of A and of the operand;
Z and N follow the result; nothing else changes but PC; the encodings are those of the rules. (R150 to R152.) -/
def Obligations.LogicalOperationsAreBitwise : Prop :=
  (∀ (b : Byte) (w : Word),
    encode (.andIndX b) = [0x21, b] ∧ encode (.andZp b) = [0x25, b] ∧ encode (.andImm b) = [0x29, b] ∧
    encode (.andAbs w) = [0x2D, lo w, hi w] ∧ encode (.andIndY b) = [0x31, b] ∧ encode (.andZpX b) = [0x35, b] ∧
    encode (.andAbsY w) = [0x39, lo w, hi w] ∧ encode (.andAbsX w) = [0x3D, lo w, hi w] ∧
    encode (.eorIndX b) = [0x41, b] ∧ encode (.eorZp b) = [0x45, b] ∧ encode (.eorImm b) = [0x49, b] ∧
    encode (.eorAbs w) = [0x4D, lo w, hi w] ∧ encode (.eorIndY b) = [0x51, b] ∧ encode (.eorZpX b) = [0x55, b] ∧
    encode (.eorAbsY w) = [0x59, lo w, hi w] ∧ encode (.eorAbsX w) = [0x5D, lo w, hi w] ∧
    encode (.oraIndX b) = [0x01, b] ∧ encode (.oraZp b) = [0x05, b] ∧ encode (.oraImm b) = [0x09, b] ∧
    encode (.oraAbs w) = [0x0D, lo w, hi w] ∧ encode (.oraIndY b) = [0x11, b] ∧ encode (.oraZpX b) = [0x15, b] ∧
    encode (.oraAbsY w) = [0x19, lo w, hi w] ∧ encode (.oraAbsX w) = [0x1D, lo w, hi w]) ∧
  (∀ (o : Src) (i : Instr) (s : State), assemble .and o.operand = some i →
    let u := s.pastInstr i.length
    ∃ t, exec i s = .next t ∧
      (∀ k : Nat, k < 8 → t.a.getLsbD k = (s.a.getLsbD k && (srcValue o u).getLsbD k)) ∧
      t = { u with a := t.a, z := decide (t.a.toNat = 0), n := decide (128 ≤ t.a.toNat) }) ∧
  (∀ (o : Src) (i : Instr) (s : State), assemble .eor o.operand = some i →
    let u := s.pastInstr i.length
    ∃ t, exec i s = .next t ∧
      (∀ k : Nat, k < 8 → t.a.getLsbD k = (s.a.getLsbD k != (srcValue o u).getLsbD k)) ∧
      t = { u with a := t.a, z := decide (t.a.toNat = 0), n := decide (128 ≤ t.a.toNat) }) ∧
  (∀ (o : Src) (i : Instr) (s : State), assemble .ora o.operand = some i →
    let u := s.pastInstr i.length
    ∃ t, exec i s = .next t ∧
      (∀ k : Nat, k < 8 → t.a.getLsbD k = (s.a.getLsbD k || (srcValue o u).getLsbD k)) ∧
      t = { u with a := t.a, z := decide (t.a.toNat = 0), n := decide (128 ≤ t.a.toNat) })

/-- Each writes its one flag with its constant and changes nothing else but PC; the encodings are those of the rules.
CLI and SEI are stated for IRQ_LATENCY_MODEL none, the default these rules are written for; the other value has a
statement of its own. (R160 to R166.) -/
def Obligations.FlagInstructionsWriteOneFlag : Prop :=
  (encode .clc = [0x18] ∧ encode .cld = [0xD8] ∧ encode .cli = [0x58] ∧ encode .clv = [0xB8] ∧
    encode .sec = [0x38] ∧ encode .sed = [0xF8] ∧ encode .sei = [0x78]) ∧
  ∀ s : State,
    let u := s.pastInstr 1
    exec .clc s = .next { u with c := false } ∧ exec .cld s = .next { u with d := false } ∧
    exec .clv s = .next { u with v := false } ∧ exec .sec s = .next { u with c := true } ∧
    exec .sed s = .next { u with d := true } ∧
    (s.cfg.irqLatency = .none →
      exec .cli s = .next { u with i := false } ∧ exec .sei s = .next { u with i := true })

/-- The model's reading of R229 (DEDUCED, log 15): under the one-instruction delay CLI, SEI and PLP complete with the
new I at once in P (CLI and SEI write I alone; PLP, stated where the stack page is RAM, the six flags of the byte it
pulls), but the boundary after them recognises an asserted IRQ by the I before them: with no reset and no NMI there,
the event is an IRQ exactly when the old I was 0. After any other instruction, RTI among them, it is an IRQ exactly
when the current I is 0. -/
def Obligations.DelayedInterruptFlagOption : Prop :=
  ∀ (i : Instr) (s : State), s.cfg.irqLatency = .oneInstruction →
    let u := s.pastInstr 1
    let top := Memory.read s.mem (0x100 + (s.sp.toNat + 1) % 256)
    ∃ t, exec i s = .next t ∧
      (t.atBoundary.irqLine = true → t.atBoundary.resetRequest = false → t.atBoundary.nmiPending = false →
        (i.mnemonic ∈ [Mnemonic.cli, .sei, .plp] → (t.atBoundary.pendingEvent = some .irq ↔ s.i = false)) ∧
        (i.mnemonic ∉ [Mnemonic.cli, .sei, .plp] → (t.atBoundary.pendingEvent = some .irq ↔ t.i = false))) ∧
      (i.mnemonic ∈ [Mnemonic.cli, .sei, .plp] → t.polledI = some s.i) ∧
      (i.mnemonic ∉ [Mnemonic.cli, .sei, .plp] → t.polledI = none) ∧
      (i = .cli → t = { u with i := false, polledI := some s.i }) ∧
      (i = .sei → t = { u with i := true, polledI := some s.i }) ∧
      (i = .plp → s.StackInRam →
        t = { u with
          sp := BitVec.ofNat 8 (s.sp.toNat + 1), n := top.getLsbD 7, v := top.getLsbD 6, d := top.getLsbD 3,
          i := top.getLsbD 2, z := top.getLsbD 1, c := top.getLsbD 0, polledI := some s.i })

/-- BIT sets Z when A AND M is 0, N to bit 7 and V to bit 6 of M itself, and changes nothing else but PC; the
encodings are those of the rule. (R170.) -/
def Obligations.BitTestsMemoryAgainstA : Prop :=
  (∀ (b : Byte) (w : Word),
    encode (.bitZp b) = [0x24, b] ∧ encode (.bitAbs w) = [0x2C, lo w, hi w]) ∧
  ∀ (m : MemMode) (i : Instr) (s : State), assemble .bit (.memory m) = some i →
    let u := s.pastInstr i.length
    let v := memOperand m u
    exec i s = .next { u with
      z := decide (∀ k : Fin 8, (s.a.getLsbD k && v.getLsbD k) = false)
      n := decide (128 ≤ v.toNat)
      v := decide (64 ≤ v.toNat % 128) }

/-- In every addressing mode a compare sets C when the register is at least the operand as unsigned numbers, Z when
they are equal, N from bit 7 of the 8-bit difference; the old C and D are no input; nothing else changes but PC; the
encodings are those of the rules. (R171 to R173.) -/
def Obligations.ComparesAreUnsignedSubtractions : Prop :=
  (∀ (b : Byte) (w : Word),
    encode (.cmpIndX b) = [0xC1, b] ∧ encode (.cmpZp b) = [0xC5, b] ∧ encode (.cmpImm b) = [0xC9, b] ∧
    encode (.cmpAbs w) = [0xCD, lo w, hi w] ∧ encode (.cmpIndY b) = [0xD1, b] ∧ encode (.cmpZpX b) = [0xD5, b] ∧
    encode (.cmpAbsY w) = [0xD9, lo w, hi w] ∧ encode (.cmpAbsX w) = [0xDD, lo w, hi w] ∧
    encode (.cpxImm b) = [0xE0, b] ∧ encode (.cpxZp b) = [0xE4, b] ∧ encode (.cpxAbs w) = [0xEC, lo w, hi w] ∧
    encode (.cpyImm b) = [0xC0, b] ∧ encode (.cpyZp b) = [0xC4, b] ∧ encode (.cpyAbs w) = [0xCC, lo w, hi w]) ∧
  (∀ (o : Src) (i : Instr) (s : State), assemble .cmp o.operand = some i →
    let u := s.pastInstr i.length
    let m := (srcValue o u).toNat
    let r := (s.a.toNat + 256 - m) % 256
    exec i s = .next { u with c := decide (m ≤ s.a.toNat), z := decide (m = s.a.toNat), n := decide (128 ≤ r) }) ∧
  (∀ (o : Src) (i : Instr) (s : State), assemble .cpx o.operand = some i →
    let u := s.pastInstr i.length
    let m := (srcValue o u).toNat
    let r := (s.x.toNat + 256 - m) % 256
    exec i s = .next { u with c := decide (m ≤ s.x.toNat), z := decide (m = s.x.toNat), n := decide (128 ≤ r) }) ∧
  (∀ (o : Src) (i : Instr) (s : State), assemble .cpy o.operand = some i →
    let u := s.pastInstr i.length
    let m := (srcValue o u).toNat
    let r := (s.y.toNat + 256 - m) % 256
    exec i s = .next { u with c := decide (m ≤ s.y.toNat), z := decide (m = s.y.toNat), n := decide (128 ≤ r) })

/-- Where its condition holds a branch goes to the address after it plus the signed offset, modulo 65536; elsewhere it
falls through; it writes nothing but PC; the encodings are those of the rules. (R188, R180 to R187.) -/
def Obligations.BranchesAddTheSignedOffset : Prop :=
  (∀ (b : Byte),
    encode (.bcc b) = [0x90, b] ∧ encode (.bcs b) = [0xB0, b] ∧ encode (.beq b) = [0xF0, b] ∧
    encode (.bmi b) = [0x30, b] ∧ encode (.bne b) = [0xD0, b] ∧ encode (.bpl b) = [0x10, b] ∧
    encode (.bvc b) = [0x50, b] ∧ encode (.bvs b) = [0x70, b]) ∧
  ∀ (b : Byte) (s : State),
    let u := s.pastInstr 2
    let taken := { u with pc := BitVec.ofInt 16 ((s.pc.toNat : Int) + 2 + b.toInt) }
    exec (.bcc b) s = .next (if s.c = false then taken else u) ∧
    exec (.bcs b) s = .next (if s.c = true then taken else u) ∧
    exec (.beq b) s = .next (if s.z = true then taken else u) ∧
    exec (.bmi b) s = .next (if s.n = true then taken else u) ∧
    exec (.bne b) s = .next (if s.z = false then taken else u) ∧
    exec (.bpl b) s = .next (if s.n = false then taken else u) ∧
    exec (.bvc b) s = .next (if s.v = false then taken else u) ∧
    exec (.bvs b) s = .next (if s.v = true then taken else u)

/-- JMP absolute loads PC with its operand; JMP indirect loads it with the word at the pointer, low byte first, the
high byte taken from the start of the same page when the pointer's low byte is $FF; nothing else changes; the
encodings are those of the rule. The indirect target is spelled out where the two pointer cells are RAM or ROM. (R189,
R76.) -/
def Obligations.JumpsLoadPC : Prop :=
  (∀ (w : Word),
    encode (.jmpAbs w) = [0x4C, lo w, hi w] ∧ encode (.jmpInd w) = [0x6C, lo w, hi w]) ∧
  ∀ (w : Word) (s : State),
    let u := s.pastInstr 3
    let second : Nat := w.toNat / 256 * 256 + (w.toNat + 1) % 256
    exec (.jmpAbs w) s = .next { u with pc := w } ∧
    (∃ t, exec (.jmpInd w) s = .next t ∧ t = { u with pc := t.pc } ∧
      (s.StoredAt w → s.StoredAt (BitVec.ofNat 16 second) →
        t.pc.toNat = (Memory.read s.mem second).toNat * 256 + (Memory.read s.mem w.toNat).toNat) ∧
      (w.toNat % 256 ≠ 255 → second = w.toNat + 1))

/-- JSR pushes the address of its opcode plus 2, high byte at $0100 + S and low byte at $0100 + S - 1 (modulo 256
inside the page), leaves S two lower, loads PC with its operand, and changes no other byte of memory, no flag and no
other register; the encoding is that of the rule. Stated where the stack page is RAM; StackWritesByClassOfCell says it
for cells of every class. (R190.) -/
def Obligations.JsrPushesItsLastByteAddress : Prop :=
  (∀ (w : Word),
    encode (.jsr w) = [0x20, lo w, hi w]) ∧
  ∀ (w : Word) (s : State), s.inv = true → s.StackInRam →
    ∃ t, exec (.jsr w) s = .next t ∧
      t = { s.pastInstr 3 with pc := w, sp := BitVec.ofNat 8 (s.sp.toNat + 254), mem := t.mem } ∧
      ∀ a : Nat, Memory.read t.mem a =
        if a = 0x100 + s.sp.toNat then BitVec.ofNat 8 ((s.pc.toNat + 2) % 65536 / 256)
        else if a = 0x100 + (s.sp.toNat + 255) % 256 then BitVec.ofNat 8 ((s.pc.toNat + 2) % 65536)
        else Memory.read s.mem a

/-- RTS pulls the low and the high byte of PC, adds one modulo 65536, leaves S two higher and writes no flag; RTI
pulls the six flags, then PC, with no adjustment, and leaves S three higher; no byte of memory changes; the encodings
are those of the rules. Stated where the stack page is RAM; StackReadsByClassOfCell says it for cells of every class.
(R191, R192.) -/
def Obligations.ReturnsPullThePC : Prop :=
  (encode .rti = [0x40] ∧ encode .rts = [0x60]) ∧
  ∀ s : State, s.StackInRam →
    let u := s.pastInstr 1
    let cell (k : Nat) : Nat := (Memory.read s.mem (0x100 + (s.sp.toNat + k) % 256)).toNat
    exec .rts s = .next { u with
      pc := BitVec.ofNat 16 (cell 2 * 256 + cell 1 + 1), sp := BitVec.ofNat 8 (s.sp.toNat + 2) } ∧
    exec .rti s = .next { u with
      pc := BitVec.ofNat 16 (cell 3 * 256 + cell 2), sp := BitVec.ofNat 8 (s.sp.toNat + 3),
      n := (cell 1).testBit 7, v := (cell 1).testBit 6, d := (cell 1).testBit 3, i := (cell 1).testBit 2,
      z := (cell 1).testBit 1, c := (cell 1).testBit 0 }

/-- After a JSR at address a, an RTS resumes at a + 3 with S as it was before the JSR; apart from the two stack cells
and the fields of the model's own nothing has changed. Stated where the stack page is RAM. (R192's corner case,
derived there from R190.) -/
def Obligations.RtsReturnsPastTheJsr : Prop :=
  ∀ (w : Word) (s : State), s.inv = true → s.StackInRam →
    ∃ t, exec (.jsr w) s = .next t ∧
      exec .rts t = .next { s with pc := s.pc + 3, mem := t.mem, polledI := none, draws := s.draws + 2 }

/-- PHA and PHP push A and the image of P with break bit 1 at $0100 + S and leave S one lower; PLA pulls A and sets Z
and N; PLP pulls the six flags; both leave S one higher and memory unchanged; no other byte, flag or register changes
but PC; the encodings are those of the rules. Stated where the stack page is RAM (StackWritesByClassOfCell and
StackReadsByClassOfCell say it for cells of every class); PLP for IRQ_LATENCY_MODEL none (DelayedInterruptFlagOption
has the other value). (R200 to R203.) -/
def Obligations.StackInstructionsMoveAAndP : Prop :=
  (encode .pha = [0x48] ∧ encode .php = [0x08] ∧ encode .pla = [0x68] ∧ encode .plp = [0x28]) ∧
  ∀ s : State, s.inv = true → s.StackInRam →
    let u := s.pastInstr 1
    let top := Memory.read s.mem (0x100 + (s.sp.toNat + 1) % 256)
    let down := BitVec.ofNat 8 (s.sp.toNat + 255)
    let up := BitVec.ofNat 8 (s.sp.toNat + 1)
    (∃ t, exec .pha s = .next t ∧ t = { u with sp := down, mem := t.mem } ∧
      ∀ a : Nat, Memory.read t.mem a = if a = 0x100 + s.sp.toNat then s.a else Memory.read s.mem a) ∧
    (∃ t, exec .php s = .next t ∧ t = { u with sp := down, mem := t.mem } ∧
      ∀ a : Nat, Memory.read t.mem a =
        if a = 0x100 + s.sp.toNat then
          BitVec.ofNat 8 (bit s.n * 128 + bit s.v * 64 + 48 + bit s.d * 8 + bit s.i * 4 + bit s.z * 2 + bit s.c)
        else Memory.read s.mem a) ∧
    exec .pla s = .next { u with sp := up, a := top, z := decide (top.toNat = 0), n := decide (128 ≤ top.toNat) } ∧
    (s.cfg.irqLatency = .none →
      exec .plp s = .next { u with
        sp := up, n := top.getLsbD 7, v := top.getLsbD 6, d := top.getLsbD 3, i := top.getLsbD 2,
        z := top.getLsbD 1, c := top.getLsbD 0 })

/-- From any state with the stack page in RAM, PHP and then PLP complete and leave the six flags, A, X, Y and S as
they were, under both values of IRQ_LATENCY_MODEL. (R201's corner case.) -/
def Obligations.PlpUndoesPhp : Prop :=
  ∀ s : State, s.inv = true → s.StackInRam →
    ∃ t u, exec .php s = .next t ∧ exec .plp t = .next u ∧
      u = { s with pc := s.pc + 2, mem := t.mem, polledI := u.polledI, draws := s.draws + 2 }

/-- NOP moves PC to the next instruction and changes no register, flag or memory cell; its encoding is $EA. (R205.) -/
def Obligations.NopOnlyAdvances : Prop :=
  encode .nop = [0xEA] ∧
  ∀ s : State, exec .nop s =
    .next { s with pc := BitVec.ofNat 16 (s.pc.toNat + 1), polledI := none, draws := s.draws + 1 }

/-- TrapEntry(ret, b, vector) pushes ret high byte first and then the image of P with break bit b and the old I, sets
I, loads PC from the vector read little-endian after the pushes, and changes nothing else: A, X, Y, C, Z, D, V, N keep
their values. Stated where the stack page is RAM; StackWritesByClassOfCell says it for cells of every class. (R224.)
-/
def Obligations.TrapEntrySavesPCAndStatus : Prop :=
  ∀ (s : State) (ret vector : Word) (b : Bool), s.inv = true → s.StackInRam →
    TrapTaken s ret b vector (s.trapEntry ret b vector)

/-- BRK completes whatever I is: it takes TrapEntry with the address of its opcode plus 2, break bit 1 and the vector
VEC_IRQ; its encoding is $00. Stated where the stack page is RAM; StackWritesByClassOfCell says it for cells of every
class. (R204.) -/
def Obligations.BrkTakesTheTrap : Prop :=
  encode .brk = [0x00] ∧
  ∀ s : State, s.inv = true → s.StackInRam →
    ∃ t, exec .brk s = .next t ∧
      TrapTaken (s.pastInstr 1) (BitVec.ofNat 16 (s.pc.toNat + 2)) true s.cfg.vecIrq t

/-- At a boundary with irq_line = 1, no reset and no NMI: with I = 0 the step is TrapEntry with the PC of the next
instruction, break bit 0 and VEC_IRQ, after which no IRQ is taken at the next boundary whatever the environment
chooses; with I = 1 no event is taken and, whatever the step then does, the line is still asserted after it. Stated
for IRQ_LATENCY_MODEL none and the stack page in RAM. (R225.) -/
def Obligations.IrqIsTakenOnlyWithIClear : Prop :=
  ∀ s : State, s.inv = true → s.StackInRam → s.cfg.irqLatency = .none →
    let u := s.atBoundary
    u.irqLine = true → u.nmiPending = false → u.resetRequest = false →
    (u.i = false →
      ∃ t, step s = .next t ∧ TrapTaken u.beginEvent u.pc false u.cfg.vecIrq t ∧
        t.atBoundary.pendingEvent ≠ some .irq) ∧
    (u.i = true → u.pendingEvent = none ∧ ∀ t, step s = .next t → t.irqLine = true)

/-- At a boundary with nmi_pending = 1 and no reset the step clears nmi_pending and is TrapEntry with the PC of the
next instruction, break bit 0 and VEC_NMI; I is not consulted, and afterwards no IRQ is taken at the next boundary
while a further NMI edge is. Stated where the stack page is RAM. (R227.) -/
def Obligations.NmiIsTakenWhateverI : Prop :=
  ∀ s : State, s.inv = true → s.StackInRam →
    let u := s.atBoundary
    u.nmiPending = true → u.resetRequest = false →
    ∃ t, step s = .next t ∧ TrapTaken { u.beginEvent with nmiPending := false } u.pc false u.cfg.vecNmi t ∧
      t.nmiPending = false ∧ t.atBoundary.pendingEvent ≠ some .irq ∧
      (t.atBoundary.nmiPending = true → t.atBoundary.resetRequest = false →
        t.atBoundary.pendingEvent = some .nmi)

/-- At a boundary with reset_request = 1 the step sets I, loads PC from the reset vector, clears nmi_pending, pushes
nothing and writes no memory cell; A, X, Y, S, C, Z, D, V, N are open by default. The model's choice (DEDUCED, log 19;
the parameter RESET_STATE of R4): under given they are what the platform promises, under keep, which R260 allows a
model of a warm reset, all but S are unchanged. (R260, R4, U9.) -/
def Obligations.ResetLeavesWhatTheSpecGives : Prop :=
  ∀ s : State,
    let u := s.atBoundary
    u.resetRequest = true →
    ∃ t, step s = .next t ∧
      t = { u.beginEvent with i := true, nmiPending := false, pc := t.pc, a := t.a, x := t.x, y := t.y, sp := t.sp,
                              c := t.c, z := t.z, d := t.d, v := t.v, n := t.n } ∧
      (s.StoredAt s.cfg.vecReset → s.StoredAt (s.cfg.vecReset + 1) →
        t.pc = word (Memory.read s.mem (s.cfg.vecReset + 1).toNat) (Memory.read s.mem s.cfg.vecReset.toNat)) ∧
      (∀ r : ResetValues, s.cfg.resetState = .given r →
        t.a = r.a ∧ t.x = r.x ∧ t.y = r.y ∧ t.sp = r.sp ∧
        t.c = r.c ∧ t.z = r.z ∧ t.d = r.d ∧ t.v = r.v ∧ t.n = r.n) ∧
      (s.cfg.resetState = .keep →
        t.a = s.a ∧ t.x = s.x ∧ t.y = s.y ∧ t.c = s.c ∧ t.z = s.z ∧ t.d = s.d ∧ t.v = s.v ∧ t.n = s.n)

/-- From any state with the stack page in RAM, RTI directly after TrapEntry(ret, b, vector) completes with PC = ret, S
and the six flags (I among them) as before the trap, whatever the break bit; only the three stack cells and the fields
of the model's own differ. (R230.) -/
def Obligations.RtiUndoesTrapEntry : Prop :=
  ∀ (s : State) (ret vector : Word) (b : Bool), s.inv = true → s.StackInRam →
    exec .rti (s.trapEntry ret b vector) =
      .next { s with pc := ret, mem := (s.trapEntry ret b vector).mem, polledI := none, draws := s.draws + 1 }

/-- For each of the 151 constructors, with every operand and in every state, exec answers a next state: no instruction
faults, is refused or is privileged. (R221, R240.) -/
def Obligations.ExecAlwaysCompletes : Prop :=
  ∀ (i : Instr) (s : State), ∃ t, exec i s = .next t

/-- If a step faults, the fault is IllegalOpcode of an unassigned byte at PC, ILLEGAL_OPCODE is fault and no event was
ready; no step is refused. (R79, R221; the parameter: R4, log 16.) -/
def Obligations.StepFaultsOnlyOnUnassignedOpcodes : Prop :=
  ∀ s : State,
    (∀ f, step s = .fault f →
      s.cfg.illegalOpcode = .fault ∧ s.atBoundary.pendingEvent = none ∧
      ∃ op ∈ unassignedOpcodes, f = .illegalOpcode op s.pc) ∧
    ∀ r, step s ≠ .refused r

/-- From every state whose memory is in canonical form (addresses rising inside the 65536 cells of R40, no entry equal
to what an unlisted cell reads) and which holds a delayed I only where R229's delay is modelled, every next state of a
step is such a state again. The canonical form and the delayed I are the model's own (logs 4, 15). -/
def Obligations.StepKeepsTheInvariant : Prop :=
  ∀ s t : State, s.inv = true → step s = .next t → t.inv = true

/-- State.reset meets the invariant that every step keeps. (The invariant is the model's own, logs 4 and 15.) -/
def Obligations.ResetMeetsTheInvariant : Prop :=
  State.reset.inv = true

/-- After reset I is 1, nmi_pending is 0, PC is the little-endian word at $FFFC in the reset memory, and the
parameters have the defaults of R4. (R29; the other registers have no value in the spec and are left out here.) -/
def Obligations.ResetStateHoldsTheStatedValues : Prop :=
  State.reset.i = true ∧ State.reset.nmiPending = false ∧
  State.reset.pc = word (Memory.read State.reset.mem 0xFFFD) (Memory.read State.reset.mem 0xFFFC) ∧
  State.reset.cfg.vecNmi = 0xFFFA ∧ State.reset.cfg.vecReset = 0xFFFC ∧ State.reset.cfg.vecIrq = 0xFFFE ∧
  (∀ a : Word, State.reset.classOf a = .ram) ∧ State.reset.cfg.resetState = .unconstrained ∧
  State.reset.cfg.decimalModel = .validBcdOnly ∧ State.reset.cfg.irqLatency = .none ∧
  State.reset.cfg.illegalOpcode = .fault

/-- Whatever a step does (an instruction, an IRQ, an NMI, a reset), the configuration is as before and every memory
cell whose class is not RAM holds what it held: a program cannot write ROM (R43). Two clauses are the model's choice:
that a DEVICE cell is among those no step changes (DESIGN CHOICE, log 10; U5: R43 leaves a DEVICE write to the
platform and R54 lets a DEVICE change what is read), and that the configuration is as before (DESIGN CHOICE, log 8).
(R43, R54, U5, R4.) -/
def Obligations.StepNeverChangesNonRam : Prop :=
  ∀ s t : State, s.inv = true → step s = .next t →
    t.cfg = s.cfg ∧
    ∀ a : Word, s.classOf a ≠ .ram → Memory.read t.mem a.toNat = Memory.read s.mem a.toNat

/-- For all 151 instructions: A, X, Y, S, each flag and memory are unchanged by every instruction outside the list of
writers that R26 (and R17 for Z and N) gives, and no instruction changes the inputs, nmi_pending or the configuration.
(The "written by" column of R26; memory: R54 and the store rules.) -/
def Obligations.EachRegisterHasOnlyItsWriters : Prop :=
  ∀ (i : Instr) (s t : State), exec i s = .next t →
    (i.mnemonic ∉ [Mnemonic.lda, .txa, .tya, .pla, .adc, .sbc, .and, .eor, .ora] →
      ¬ (i.mnemonic ∈ [Mnemonic.asl, .lsr, .rol, .ror] ∧ i.mode = .accumulator) →
      t.a = s.a) ∧
    (i.mnemonic ∉ [Mnemonic.ldx, .tax, .tsx, .inx, .dex] → t.x = s.x) ∧
    (i.mnemonic ∉ [Mnemonic.ldy, .tay, .iny, .dey] → t.y = s.y) ∧
    (i.mnemonic ∉ [Mnemonic.txs, .pha, .php, .pla, .plp, .jsr, .rts, .rti, .brk] → t.sp = s.sp) ∧
    (i.mnemonic ∉ [Mnemonic.sei, .cli, .plp, .rti, .brk] → t.i = s.i) ∧
    (i.mnemonic ∉ [Mnemonic.sed, .cld, .plp, .rti] → t.d = s.d) ∧
    (i.mnemonic ∉ [Mnemonic.adc, .sbc, .bit, .clv, .plp, .rti] → t.v = s.v) ∧
    (i.mnemonic ∉ [Mnemonic.adc, .sbc, .asl, .lsr, .rol, .ror, .cmp, .cpx, .cpy, .clc, .sec, .plp, .rti] →
      t.c = s.c) ∧
    (i.mnemonic ∉ [Mnemonic.lda, .ldx, .ldy, .tax, .tay, .txa, .tya, .tsx, .pla, .inc, .inx, .iny,
      .dec, .dex, .dey, .asl, .lsr, .rol, .ror, .and, .eor, .ora, .adc, .sbc, .cmp, .cpx, .cpy, .bit, .plp, .rti] →
      t.z = s.z ∧ t.n = s.n) ∧
    (i.mnemonic ∉ [Mnemonic.sta, .stx, .sty, .inc, .dec, .asl, .lsr, .rol, .ror, .pha, .php, .jsr, .brk] →
      t.mem = s.mem) ∧
    (i.mnemonic ∈ [Mnemonic.asl, .lsr, .rol, .ror] → i.mode = .accumulator → t.mem = s.mem) ∧
    t.nmiPending = s.nmiPending ∧ t.irqLine = s.irqLine ∧ t.resetRequest = s.resetRequest ∧ t.env = s.env ∧
    t.cfg = s.cfg

/-- An instruction that is not a branch, jump, call, return or BRK ends with PC at (PC + length) mod 65536. (R13,
R62.) -/
def Obligations.OnlyControlTransferLeavesTheSequence : Prop :=
  ∀ (i : Instr) (s t : State), exec i s = .next t →
    i.mode ≠ .relative → i.mnemonic ∉ [Mnemonic.jmp, .jsr, .rts, .rti, .brk] →
    t.pc.toNat = (s.pc.toNat + i.length) % 65536

/-- An instruction that pushes (PHA, PHP, JSR, BRK) leaves every byte outside $0100 to $01FF unchanged, and an
instruction with a zero-page address leaves every byte from $0100 on unchanged, wherever S and the index registers
point. (R40, R45, R67, R68.) -/
def Obligations.PushesAndZeroPageStoresStayInTheirPage : Prop :=
  ∀ (i : Instr) (s t : State), s.inv = true → exec i s = .next t →
    (i.mnemonic ∈ [Mnemonic.pha, .php, .jsr, .brk] →
      ∀ a : Nat, ¬ (0x100 ≤ a ∧ a ≤ 0x1FF) → Memory.read t.mem a = Memory.read s.mem a) ∧
    (i.mode ∈ [Mode.zeroPage, .zeroPageX, .zeroPageY] →
      ∀ a : Nat, 0x100 ≤ a → Memory.read t.mem a = Memory.read s.mem a)

/-- What a store of any form puts in a RAM cell (STA, STX, STY; INC, DEC, ASL, LSR, ROL, ROR on memory; PHA, PHP, JSR,
BRK) is what the next step reads there, as an opcode, as an operand byte or as data; and whatever the last instruction
was, the next step reads at every RAM or ROM address the byte memory then holds. (R56, R43.) -/
def Obligations.StoreIsSeenByTheNextFetch : Prop :=
  ∀ s : State, s.inv = true →
    let seen (t : State) (a : Word) (v : Byte) : Prop :=
      s.classOf a = .ram → ∀ k : Access, t.atBoundary.read k a = v
    let store (mn : Mnemonic) (v : Byte) : Prop := ∀ (m : MemMode) (i : Instr), assemble mn (.memory m) = some i →
      ∃ t, exec i s = .next t ∧ seen t (effAddr m (s.pastInstr i.length)) v
    let rmw (mn : Mnemonic) (f : Nat → Nat) : Prop := ∀ (m : MemMode) (i : Instr), assemble mn (.memory m) = some i →
      let u := s.pastInstr i.length
      ∃ t, exec i s = .next t ∧ seen t (effAddr m u) (BitVec.ofNat 8 (f (memOperand m u).toNat))
    let stack (k : Nat) : Word := BitVec.ofNat 16 (0x100 + (s.sp.toNat + k) % 256)
    let ret : Word := BitVec.ofNat 16 (s.pc.toNat + 2)
    store .sta s.a ∧ store .stx s.x ∧ store .sty s.y ∧
    rmw .inc (fun m => m + 1) ∧ rmw .dec (fun m => m + 255) ∧
    rmw .asl (fun m => m * 2) ∧ rmw .lsr (fun m => m / 2) ∧
    rmw .rol (fun m => m * 2 + bit s.c) ∧ rmw .ror (fun m => m / 2 + 128 * bit s.c) ∧
    (∃ t, exec .pha s = .next t ∧ seen t (stack 0) s.a) ∧
    (∃ t, exec .php s = .next t ∧ seen t (stack 0) (s.pImage true)) ∧
    (∀ w : Word, ∃ t, exec (.jsr w) s = .next t ∧ seen t (stack 0) (hi ret) ∧ seen t (stack 255) (lo ret)) ∧
    (∃ t, exec .brk s = .next t ∧
      seen t (stack 0) (hi ret) ∧ seen t (stack 255) (lo ret) ∧ seen t (stack 254) (s.pImage true)) ∧
    ∀ (i : Instr) (t : State), exec i s = .next t →
      ∀ (k : Access) (a : Word), s.StoredAt a → t.atBoundary.read k a = Memory.read t.mem a.toNat

/-- For every instruction but ADC, SBC, PHP and BRK, two states that differ in D alone give next states that differ in
D at most, and not at all where the instruction writes D: INC, DEC, the compares and the rest ignore D. (R19.) -/
def Obligations.DecimalFlagReachesOnlyAddAndSubtract : Prop :=
  ∀ (i : Instr) (s : State) (d : Bool),
    i.mnemonic ∉ [Mnemonic.adc, .sbc, .php, .brk] →
    ∃ t t' : State, exec i s = .next t ∧ exec i { s with d := d } = .next t' ∧
      t' = { t with d := t'.d } ∧
      (i.mnemonic ∈ [Mnemonic.cld, .sed, .plp, .rti] → t'.d = t.d) ∧
      (i.mnemonic ∉ [Mnemonic.cld, .sed, .plp, .rti] → t'.d = d ∧ t.d = s.d)

/-- The operand of an instruction in Immediate mode is its constant byte; in a memory mode it is MemRead of the
effective address, which where that address is RAM or ROM is the byte stored there (R43); in Accumulator mode it is A
(R64). The effective addresses are EffectiveAddressesWrapAsStated's. (R64, R65, R43.) -/
def Obligations.OperandIsTheConstantOrTheByteAtTheAddress : Prop :=
  ∀ (s : State) (b : Byte) (m : MemMode),
    srcValue (.imm b) s = b ∧
    srcValue (.mem m) s = s.read .data (effAddr m s) ∧
    memOperand m s = s.read .data (effAddr m s) ∧
    placeValue .acc s = s.a ∧
    placeValue (.mem m) s = s.read .data (effAddr m s) ∧
    (s.StoredAt (effAddr m s) →
      srcValue (.mem m) s = Memory.read s.mem (effAddr m s).toNat ∧
      memOperand m s = Memory.read s.mem (effAddr m s).toNat ∧
      placeValue (.mem m) s = Memory.read s.mem (effAddr m s).toNat)

/-- Whatever the classes of the stack cells, a push moves S and writes its byte exactly where the cell is RAM: in a
ROM or UNMAPPED cell nothing is written (R46 with R43), and in a DEVICE cell neither, which is the model's choice
(DESIGN CHOICE, log 10; U5). PHA, PHP, JSR, BRK and the entries of IRQ and NMI complete so, and all else they do is as
on a RAM stack. (R46, R48, R43, R200, R201, R204, R190, R224, R225, R227.) -/
def Obligations.StackWritesByClassOfCell : Prop :=
  ∀ s : State, s.inv = true →
    let ram (k : Nat) : Bool := decide (s.classOf (BitVec.ofNat 16 (0x100 + (s.sp.toNat + k) % 256)) = .ram)
    let cell (k : Nat) : Nat := 0x100 + (s.sp.toNat + k) % 256
    let pushed1 (t : State) (v : Byte) : Prop := ∀ a : Nat, Memory.read t.mem a =
      if a = cell 0 ∧ ram 0 = true then v else Memory.read s.mem a
    let pushed2 (t : State) (w : Word) : Prop := ∀ a : Nat, Memory.read t.mem a =
      if a = cell 0 ∧ ram 0 = true then hi w else if a = cell 255 ∧ ram 255 = true then lo w else Memory.read s.mem a
    let pushed3 (t : State) (w : Word) (p : Byte) : Prop := ∀ a : Nat, Memory.read t.mem a =
      if a = cell 0 ∧ ram 0 = true then hi w
      else if a = cell 255 ∧ ram 255 = true then lo w
      else if a = cell 254 ∧ ram 254 = true then p
      else Memory.read s.mem a
    let sp (k : Nat) : Byte := BitVec.ofNat 8 (s.sp.toNat + k)
    let entered (u t : State) (ret : Word) (b : Bool) (vector : Word) : Prop :=
      pushed3 t ret (u.pImage b) ∧
      t = { u with sp := sp 253, i := true, mem := t.mem,
                   pc := word (t.read .vectorHigh (vector + 1)) (t.read .vectorLow vector) }
    (∀ v : Byte, s.push v = { s with sp := sp 255, mem := (s.push v).mem } ∧ pushed1 (s.push v) v) ∧
    (∃ t, exec .pha s = .next t ∧ t = { s.pastInstr 1 with sp := sp 255, mem := t.mem } ∧ pushed1 t s.a) ∧
    (∃ t, exec .php s = .next t ∧ t = { s.pastInstr 1 with sp := sp 255, mem := t.mem } ∧
      pushed1 t (s.pImage true)) ∧
    (∀ w : Word, ∃ t, exec (.jsr w) s = .next t ∧
      t = { s.pastInstr 3 with pc := w, sp := sp 254, mem := t.mem } ∧
      pushed2 t (BitVec.ofNat 16 (s.pc.toNat + 2))) ∧
    (∃ t, exec .brk s = .next t ∧
      entered (s.pastInstr 1) t (BitVec.ofNat 16 (s.pc.toNat + 2)) true s.cfg.vecIrq) ∧
    (s.atBoundary.pendingEvent = some .irq →
      ∃ t, step s = .next t ∧ entered s.atBoundary.beginEvent t s.pc false s.cfg.vecIrq) ∧
    (s.atBoundary.pendingEvent = some .nmi →
      ∃ t, step s = .next t ∧
        entered { s.atBoundary.beginEvent with nmiPending := false } t s.pc false s.cfg.vecNmi)

/-- Whatever the classes of the stack cells, PLA, PLP, RTS and RTI complete, move S and write what a RAM stack makes
them write, from the bytes they pull: the stored byte of a RAM or ROM cell, an open byte of an UNMAPPED cell (R43, U4)
or of a DEVICE cell (log 10, U5); memory is unchanged. (R47, R48, R202, R203, R191, R192.) -/
def Obligations.StackReadsByClassOfCell : Prop :=
  ∀ s : State,
    let u := s.pastInstr 1
    let pulled (k : Nat) (v : Byte) : Prop :=
      s.StoredAt (BitVec.ofNat 16 (0x100 + (s.sp.toNat + k) % 256)) →
        v = Memory.read s.mem (0x100 + (s.sp.toNat + k) % 256)
    let sp (k : Nat) : Byte := BitVec.ofNat 8 (s.sp.toNat + k)
    (∃ v, pulled 1 v ∧
      exec .pla s = .next { u with sp := sp 1, a := v, z := decide (v.toNat = 0), n := decide (128 ≤ v.toNat) }) ∧
    (∃ p t, pulled 1 p ∧ exec .plp s = .next t ∧
      t = { u with sp := sp 1, n := p.getLsbD 7, v := p.getLsbD 6, d := p.getLsbD 3, i := p.getLsbD 2,
                   z := p.getLsbD 1, c := p.getLsbD 0, polledI := t.polledI }) ∧
    (∃ l h, pulled 1 l ∧ pulled 2 h ∧
      exec .rts s = .next { u with sp := sp 2, pc := BitVec.ofNat 16 (h.toNat * 256 + l.toNat + 1) }) ∧
    (∃ p l h, pulled 1 p ∧ pulled 2 l ∧ pulled 3 h ∧
      exec .rti s = .next { u with
        sp := sp 3, pc := BitVec.ofNat 16 (h.toNat * 256 + l.toNat),
        n := p.getLsbD 7, v := p.getLsbD 6, d := p.getLsbD 3, i := p.getLsbD 2,
        z := p.getLsbD 1, c := p.getLsbD 0 })

/-- The model's second value of ILLEGAL_OPCODE (DESIGN CHOICE, log 16): with no event ready and an unassigned byte
fetched at PC, the step completes; registers, flags, PC and RAM are open, while the configuration, the inputs,
nmi_pending and every cell that is not RAM (a DEVICE cell among them: DESIGN CHOICE, log 10) are as at the boundary,
and the invariant is kept. -/
def Obligations.UnconstrainedIllegalOpcodeBoundsTheUnknown : Prop :=
  ∀ s : State, s.inv = true → s.cfg.illegalOpcode = .unconstrained →
    let u := s.atBoundary
    u.pendingEvent = none → u.read .opcode s.pc ∈ unassignedOpcodes →
    ∃ t, step s = .next t ∧ t.inv = true ∧
      t = { u with a := t.a, x := t.x, y := t.y, sp := t.sp, pc := t.pc, c := t.c, z := t.z, i := t.i, d := t.d,
                   v := t.v, n := t.n, mem := t.mem, polledI := none, draws := s.draws + 1 } ∧
      ∀ a : Word, s.classOf a ≠ .ram → Memory.read t.mem a.toNat = Memory.read s.mem a.toNat
end

