-- ==== Sys2Proof/Laws/Forms.lean ====
section
/-! SUPPORT. What exec answers for the forms of one mnemonic: one shared operation, whatever the addressing mode, over a
PC moved past the length of the form. -/

namespace Sys2Proof.Machine

variable {i : Instr} {s : State}

/- Mnemonics with a read operand. -/
theorem exec_lda {o : Src} (h : assemble .lda o.operand = some i) :
    exec i s = .next (opLda o s) ∧ i.length = srcLength o := by
  rcases o with b | p <;> [skip; cases p] <;>
    simp only [Src.operand, assemble, Option.some.injEq, reduceCtorEq] at h <;> subst h <;> exact ⟨rfl, rfl⟩

theorem exec_ldx {o : Src} (h : assemble .ldx o.operand = some i) :
    exec i s = .next (opLdx o s) ∧ i.length = srcLength o := by
  rcases o with b | p <;> [skip; cases p] <;>
    simp only [Src.operand, assemble, Option.some.injEq, reduceCtorEq] at h <;> subst h <;> exact ⟨rfl, rfl⟩

theorem exec_ldy {o : Src} (h : assemble .ldy o.operand = some i) :
    exec i s = .next (opLdy o s) ∧ i.length = srcLength o := by
  rcases o with b | p <;> [skip; cases p] <;>
    simp only [Src.operand, assemble, Option.some.injEq, reduceCtorEq] at h <;> subst h <;> exact ⟨rfl, rfl⟩

theorem exec_adc {o : Src} (h : assemble .adc o.operand = some i) :
    exec i s = .next (opAdc o s) ∧ i.length = srcLength o := by
  rcases o with b | p <;> [skip; cases p] <;>
    simp only [Src.operand, assemble, Option.some.injEq, reduceCtorEq] at h <;> subst h <;> exact ⟨rfl, rfl⟩

theorem exec_sbc {o : Src} (h : assemble .sbc o.operand = some i) :
    exec i s = .next (opSbc o s) ∧ i.length = srcLength o := by
  rcases o with b | p <;> [skip; cases p] <;>
    simp only [Src.operand, assemble, Option.some.injEq, reduceCtorEq] at h <;> subst h <;> exact ⟨rfl, rfl⟩

theorem exec_and {o : Src} (h : assemble .and o.operand = some i) :
    exec i s = .next (opAnd o s) ∧ i.length = srcLength o := by
  rcases o with b | p <;> [skip; cases p] <;>
    simp only [Src.operand, assemble, Option.some.injEq, reduceCtorEq] at h <;> subst h <;> exact ⟨rfl, rfl⟩

theorem exec_eor {o : Src} (h : assemble .eor o.operand = some i) :
    exec i s = .next (opEor o s) ∧ i.length = srcLength o := by
  rcases o with b | p <;> [skip; cases p] <;>
    simp only [Src.operand, assemble, Option.some.injEq, reduceCtorEq] at h <;> subst h <;> exact ⟨rfl, rfl⟩

theorem exec_ora {o : Src} (h : assemble .ora o.operand = some i) :
    exec i s = .next (opOra o s) ∧ i.length = srcLength o := by
  rcases o with b | p <;> [skip; cases p] <;>
    simp only [Src.operand, assemble, Option.some.injEq, reduceCtorEq] at h <;> subst h <;> exact ⟨rfl, rfl⟩

theorem exec_cmp {o : Src} (h : assemble .cmp o.operand = some i) :
    exec i s = .next (opCmp o s) ∧ i.length = srcLength o := by
  rcases o with b | p <;> [skip; cases p] <;>
    simp only [Src.operand, assemble, Option.some.injEq, reduceCtorEq] at h <;> subst h <;> exact ⟨rfl, rfl⟩

theorem exec_cpx {o : Src} (h : assemble .cpx o.operand = some i) :
    exec i s = .next (opCpx o s) ∧ i.length = srcLength o := by
  rcases o with b | p <;> [skip; cases p] <;>
    simp only [Src.operand, assemble, Option.some.injEq, reduceCtorEq] at h <;> subst h <;> exact ⟨rfl, rfl⟩

theorem exec_cpy {o : Src} (h : assemble .cpy o.operand = some i) :
    exec i s = .next (opCpy o s) ∧ i.length = srcLength o := by
  rcases o with b | p <;> [skip; cases p] <;>
    simp only [Src.operand, assemble, Option.some.injEq, reduceCtorEq] at h <;> subst h <;> exact ⟨rfl, rfl⟩

/- Mnemonics with a memory operand. -/
theorem exec_sta {m : MemMode} (h : assemble .sta (.memory m) = some i) :
    exec i s = .next (opSta m s) ∧ i.length = memLength m := by
  cases m <;> simp only [assemble, Option.some.injEq, reduceCtorEq] at h <;> subst h <;> exact ⟨rfl, rfl⟩

theorem exec_stx {m : MemMode} (h : assemble .stx (.memory m) = some i) :
    exec i s = .next (opStx m s) ∧ i.length = memLength m := by
  cases m <;> simp only [assemble, Option.some.injEq, reduceCtorEq] at h <;> subst h <;> exact ⟨rfl, rfl⟩

theorem exec_sty {m : MemMode} (h : assemble .sty (.memory m) = some i) :
    exec i s = .next (opSty m s) ∧ i.length = memLength m := by
  cases m <;> simp only [assemble, Option.some.injEq, reduceCtorEq] at h <;> subst h <;> exact ⟨rfl, rfl⟩

theorem exec_inc {m : MemMode} (h : assemble .inc (.memory m) = some i) :
    exec i s = .next (opInc m s) ∧ i.length = memLength m := by
  cases m <;> simp only [assemble, Option.some.injEq, reduceCtorEq] at h <;> subst h <;> exact ⟨rfl, rfl⟩

theorem exec_dec {m : MemMode} (h : assemble .dec (.memory m) = some i) :
    exec i s = .next (opDec m s) ∧ i.length = memLength m := by
  cases m <;> simp only [assemble, Option.some.injEq, reduceCtorEq] at h <;> subst h <;> exact ⟨rfl, rfl⟩

theorem exec_bit {m : MemMode} (h : assemble .bit (.memory m) = some i) :
    exec i s = .next (opBit m s) ∧ i.length = memLength m := by
  cases m <;> simp only [assemble, Option.some.injEq, reduceCtorEq] at h <;> subst h <;> exact ⟨rfl, rfl⟩

theorem exec_asl {m : MemMode} (h : assemble .asl (.memory m) = some i) :
    exec i s = .next (opAsl (.mem m) s) ∧ i.length = memLength m := by
  cases m <;> simp only [assemble, Option.some.injEq, reduceCtorEq] at h <;> subst h <;> exact ⟨rfl, rfl⟩

theorem exec_lsr {m : MemMode} (h : assemble .lsr (.memory m) = some i) :
    exec i s = .next (opLsr (.mem m) s) ∧ i.length = memLength m := by
  cases m <;> simp only [assemble, Option.some.injEq, reduceCtorEq] at h <;> subst h <;> exact ⟨rfl, rfl⟩

theorem exec_rol {m : MemMode} (h : assemble .rol (.memory m) = some i) :
    exec i s = .next (opRol (.mem m) s) ∧ i.length = memLength m := by
  cases m <;> simp only [assemble, Option.some.injEq, reduceCtorEq] at h <;> subst h <;> exact ⟨rfl, rfl⟩

theorem exec_ror {m : MemMode} (h : assemble .ror (.memory m) = some i) :
    exec i s = .next (opRor (.mem m) s) ∧ i.length = memLength m := by
  cases m <;> simp only [assemble, Option.some.injEq, reduceCtorEq] at h <;> subst h <;> exact ⟨rfl, rfl⟩

end Sys2Proof.Machine
end

