-- ==== Sys2Proof/Laws/Memory.lean ====
section
/-! SUPPORT. The laws of memory: a write keeps the canonical form, a read after a write, and equal contents are equal
data. -/

namespace Sys2Proof.Machine

theorem Memory.wfFrom_cons (low a : Nat) (v : Byte) (m : Memory) :
    Memory.wfFrom low ((a, v) :: m) = true ↔
      low ≤ a ∧ a < Memory.size ∧ v ≠ Memory.unlisted ∧ Memory.wfFrom (a + 1) m = true := by
  simp [Memory.wfFrom, and_assoc]

/-- The canonical form from a higher address is canonical from a lower one. -/
theorem Memory.wfFrom_mono {low low' : Nat} (h : low' ≤ low) :
    ∀ {m : Memory}, Memory.wfFrom low m = true → Memory.wfFrom low' m = true
  | [], _ => rfl
  | (a, v) :: m, hm => by
    rw [Memory.wfFrom_cons] at hm ⊢
    exact ⟨h.trans hm.1, hm.2⟩

/-- Below its lowest entry a canonical memory reads as unlisted. -/
theorem Memory.read_below {low a : Nat} (h : a < low) :
    ∀ {m : Memory}, Memory.wfFrom low m = true → Memory.read m a = Memory.unlisted
  | [], _ => rfl
  | (b, v) :: m, hm => by
    rw [Memory.wfFrom_cons] at hm
    have hne : a ≠ b := by omega
    rw [Memory.read, if_neg hne]
    exact Memory.read_below (by omega) hm.2.2.2

theorem Memory.wfFrom_write {low a : Nat} (ha : low ≤ a) (hs : a < Memory.size) (v : Byte) :
    ∀ {m : Memory}, Memory.wfFrom low m = true → Memory.wfFrom low (Memory.write m a v) = true
  | [], _ => by
    rw [Memory.write]
    split
    · rfl
    · rename_i hv
      rw [Memory.wfFrom_cons]
      exact ⟨ha, hs, hv, rfl⟩
  | (b, w) :: m, hm => by
    have hm' := (Memory.wfFrom_cons _ _ _ _).1 hm
    rw [Memory.write]
    split
    · rename_i hab
      split
      · exact hm
      · rename_i hv
        rw [Memory.wfFrom_cons, Memory.wfFrom_cons]
        exact ⟨ha, hs, hv, by omega, hm'.2⟩
    · split
      · rename_i hab
        subst hab
        split
        · exact Memory.wfFrom_mono (by omega) hm'.2.2.2
        · rename_i hv
          rw [Memory.wfFrom_cons]
          exact ⟨ha, hs, hv, hm'.2.2.2⟩
      · rw [Memory.wfFrom_cons]
        exact ⟨hm'.1, hm'.2.1, hm'.2.2.1, Memory.wfFrom_write (by omega) hs v hm'.2.2.2⟩

/-- A write inside the address space keeps the canonical form. -/
theorem Memory.wf_write {m : Memory} {a : Nat} (hs : a < Memory.size) (v : Byte) (hm : Memory.wf m = true) :
    Memory.wf (Memory.write m a v) = true :=
  Memory.wfFrom_write (Nat.zero_le a) hs v hm

theorem Memory.read_write_from {low a : Nat} (v : Byte) (a' : Nat) :
    ∀ {m : Memory}, Memory.wfFrom low m = true →
      Memory.read (Memory.write m a v) a' = if a' = a then v else Memory.read m a'
  | [], _ => by
    rw [Memory.write]
    by_cases hv : v = Memory.unlisted <;> by_cases h : a' = a <;> simp [hv, h, Memory.read]
  | (b, w) :: m, hm => by
    have hm' := (Memory.wfFrom_cons _ _ _ _).1 hm
    have htail : ∀ x, x ≤ b → Memory.read m x = Memory.unlisted := fun x hx =>
      Memory.read_below (Nat.lt_succ_of_le hx) hm'.2.2.2
    rw [Memory.write]
    split
    · rename_i hab
      by_cases hv : v = Memory.unlisted
      · rw [if_pos hv]
        by_cases h : a' = a
        · have hne : a ≠ b := by omega
          rw [if_pos h, h, hv, Memory.read, if_neg hne, htail a (by omega)]
        · rw [if_neg h]
      · rw [if_neg hv, Memory.read]
    · split
      · rename_i hab
        subst hab
        by_cases hv : v = Memory.unlisted
        · rw [if_pos hv]
          by_cases h : a' = a
          · rw [if_pos h, h, hv, htail a (Nat.le_refl a)]
          · rw [if_neg h, Memory.read, if_neg h]
        · rw [if_neg hv, Memory.read, Memory.read]
          by_cases h : a' = a
          · rw [if_pos h, if_pos h]
          · rw [if_neg h, if_neg h, if_neg h]
      · rename_i hlt hne
        rw [Memory.read, Memory.read, Memory.read_write_from v a' hm'.2.2.2]
        by_cases h : a' = b
        · have hne' : ¬ a' = a := by omega
          simp [h, Ne.symm hne]
        · rw [if_neg h, if_neg h]

/-- What a read gives after a write, in a canonical memory: the byte written at its address, what was there before
everywhere else. -/
theorem Memory.read_write {m : Memory} (hm : Memory.wf m = true) (a a' : Nat) (v : Byte) :
    Memory.read (Memory.write m a v) a' = if a' = a then v else Memory.read m a' :=
  Memory.read_write_from v a' hm

/-- A write leaves every other address alone, in a canonical memory. -/
theorem Memory.read_write_ne {m : Memory} (hm : Memory.wf m = true) {a a' : Nat} (h : a' ≠ a) (v : Byte) :
    Memory.read (Memory.write m a v) a' = Memory.read m a' := by
  rw [Memory.read_write hm, if_neg h]

theorem Memory.eq_of_read_eq_from :
    ∀ {low : Nat} {m m' : Memory}, Memory.wfFrom low m = true → Memory.wfFrom low m' = true →
      (∀ a, Memory.read m a = Memory.read m' a) → m = m'
  | _, [], [], _, _, _ => rfl
  | _, [], (b, w) :: m', _, h', h => by
    have hw := (Memory.wfFrom_cons _ _ _ _).1 h'
    have := h b
    simp only [Memory.read, if_true] at this
    exact absurd this.symm hw.2.2.1
  | _, (b, w) :: m, [], h', _, h => by
    have hw := (Memory.wfFrom_cons _ _ _ _).1 h'
    have := h b
    simp only [Memory.read, if_true] at this
    exact absurd this hw.2.2.1
  | low, (b, w) :: m, (b', w') :: m', hm, hm', h => by
    have h1 := (Memory.wfFrom_cons _ _ _ _).1 hm
    have h2 := (Memory.wfFrom_cons _ _ _ _).1 hm'
    have hb : b = b' := by
      rcases Nat.lt_trichotomy b b' with hlt | heq | hgt
      · have := h b
        rw [Memory.read, if_pos rfl, Memory.read, if_neg (by omega), Memory.read_below (by omega) h2.2.2.2] at this
        exact absurd this h1.2.2.1
      · exact heq
      · have := h b'
        rw [Memory.read, if_neg (by omega), Memory.read_below (by omega) h1.2.2.2, Memory.read, if_pos rfl] at this
        exact absurd this.symm h2.2.2.1
    subst hb
    have hw : w = w' := by simpa [Memory.read] using h b
    subst hw
    have ht : m = m' := Memory.eq_of_read_eq_from h1.2.2.2 h2.2.2.2 fun a => by
      have := h a
      by_cases hab : a = b
      · rw [Memory.read_below (by omega) h1.2.2.2, Memory.read_below (by omega) h2.2.2.2]
      · simpa [Memory.read, hab] using this
    rw [ht]

/-- Two canonical memories with the same contents are the same data. -/
theorem Memory.eq_of_read_eq {m m' : Memory} (hm : Memory.wf m = true) (hm' : Memory.wf m' = true)
    (h : ∀ a, Memory.read m a = Memory.read m' a) : m = m' :=
  Memory.eq_of_read_eq_from hm hm' h

end Sys2Proof.Machine
end

