-- ==== Sys2Proof/Laws/State.lean ====
section
/-! SUPPORT. One lemma for each field of State and each named record update. -/

namespace Sys2Proof.Machine

variable (s : State)

/- `State.setNZ` -/
@[simp] theorem State.setNZ_a (b : Byte) : (s.setNZ b).a = s.a := rfl
@[simp] theorem State.setNZ_x (b : Byte) : (s.setNZ b).x = s.x := rfl
@[simp] theorem State.setNZ_y (b : Byte) : (s.setNZ b).y = s.y := rfl
@[simp] theorem State.setNZ_sp (b : Byte) : (s.setNZ b).sp = s.sp := rfl
@[simp] theorem State.setNZ_pc (b : Byte) : (s.setNZ b).pc = s.pc := rfl
@[simp] theorem State.setNZ_c (b : Byte) : (s.setNZ b).c = s.c := rfl
@[simp] theorem State.setNZ_z (b : Byte) : (s.setNZ b).z = decide (b = 0) := rfl
@[simp] theorem State.setNZ_i (b : Byte) : (s.setNZ b).i = s.i := rfl
@[simp] theorem State.setNZ_d (b : Byte) : (s.setNZ b).d = s.d := rfl
@[simp] theorem State.setNZ_v (b : Byte) : (s.setNZ b).v = s.v := rfl
@[simp] theorem State.setNZ_n (b : Byte) : (s.setNZ b).n = b.getLsbD 7 := rfl
@[simp] theorem State.setNZ_mem (b : Byte) : (s.setNZ b).mem = s.mem := rfl
@[simp] theorem State.setNZ_nmiPending (b : Byte) : (s.setNZ b).nmiPending = s.nmiPending := rfl
@[simp] theorem State.setNZ_irqLine (b : Byte) : (s.setNZ b).irqLine = s.irqLine := rfl
@[simp] theorem State.setNZ_resetRequest (b : Byte) : (s.setNZ b).resetRequest = s.resetRequest := rfl
@[simp] theorem State.setNZ_env (b : Byte) : (s.setNZ b).env = s.env := rfl
@[simp] theorem State.setNZ_cfg (b : Byte) : (s.setNZ b).cfg = s.cfg := rfl
@[simp] theorem State.setNZ_polledI (b : Byte) : (s.setNZ b).polledI = s.polledI := rfl
@[simp] theorem State.setNZ_draws (b : Byte) : (s.setNZ b).draws = s.draws := rfl

/- `State.setP` -/
@[simp] theorem State.setP_a (b : Byte) : (s.setP b).a = s.a := rfl
@[simp] theorem State.setP_x (b : Byte) : (s.setP b).x = s.x := rfl
@[simp] theorem State.setP_y (b : Byte) : (s.setP b).y = s.y := rfl
@[simp] theorem State.setP_sp (b : Byte) : (s.setP b).sp = s.sp := rfl
@[simp] theorem State.setP_pc (b : Byte) : (s.setP b).pc = s.pc := rfl
@[simp] theorem State.setP_c (b : Byte) : (s.setP b).c = b.getLsbD 0 := rfl
@[simp] theorem State.setP_z (b : Byte) : (s.setP b).z = b.getLsbD 1 := rfl
@[simp] theorem State.setP_i (b : Byte) : (s.setP b).i = b.getLsbD 2 := rfl
@[simp] theorem State.setP_d (b : Byte) : (s.setP b).d = b.getLsbD 3 := rfl
@[simp] theorem State.setP_v (b : Byte) : (s.setP b).v = b.getLsbD 6 := rfl
@[simp] theorem State.setP_n (b : Byte) : (s.setP b).n = b.getLsbD 7 := rfl
@[simp] theorem State.setP_mem (b : Byte) : (s.setP b).mem = s.mem := rfl
@[simp] theorem State.setP_nmiPending (b : Byte) : (s.setP b).nmiPending = s.nmiPending := rfl
@[simp] theorem State.setP_irqLine (b : Byte) : (s.setP b).irqLine = s.irqLine := rfl
@[simp] theorem State.setP_resetRequest (b : Byte) : (s.setP b).resetRequest = s.resetRequest := rfl
@[simp] theorem State.setP_env (b : Byte) : (s.setP b).env = s.env := rfl
@[simp] theorem State.setP_cfg (b : Byte) : (s.setP b).cfg = s.cfg := rfl
@[simp] theorem State.setP_polledI (b : Byte) : (s.setP b).polledI = s.polledI := rfl
@[simp] theorem State.setP_draws (b : Byte) : (s.setP b).draws = s.draws := rfl

/- `State.holdPolledI` -/
@[simp] theorem State.holdPolledI_a (old : Bool) : (s.holdPolledI old).a = s.a := rfl
@[simp] theorem State.holdPolledI_x (old : Bool) : (s.holdPolledI old).x = s.x := rfl
@[simp] theorem State.holdPolledI_y (old : Bool) : (s.holdPolledI old).y = s.y := rfl
@[simp] theorem State.holdPolledI_sp (old : Bool) : (s.holdPolledI old).sp = s.sp := rfl
@[simp] theorem State.holdPolledI_pc (old : Bool) : (s.holdPolledI old).pc = s.pc := rfl
@[simp] theorem State.holdPolledI_c (old : Bool) : (s.holdPolledI old).c = s.c := rfl
@[simp] theorem State.holdPolledI_z (old : Bool) : (s.holdPolledI old).z = s.z := rfl
@[simp] theorem State.holdPolledI_i (old : Bool) : (s.holdPolledI old).i = s.i := rfl
@[simp] theorem State.holdPolledI_d (old : Bool) : (s.holdPolledI old).d = s.d := rfl
@[simp] theorem State.holdPolledI_v (old : Bool) : (s.holdPolledI old).v = s.v := rfl
@[simp] theorem State.holdPolledI_n (old : Bool) : (s.holdPolledI old).n = s.n := rfl
@[simp] theorem State.holdPolledI_mem (old : Bool) : (s.holdPolledI old).mem = s.mem := rfl
@[simp] theorem State.holdPolledI_nmiPending (old : Bool) : (s.holdPolledI old).nmiPending = s.nmiPending := rfl
@[simp] theorem State.holdPolledI_irqLine (old : Bool) : (s.holdPolledI old).irqLine = s.irqLine := rfl
@[simp] theorem State.holdPolledI_resetRequest (old : Bool) : (s.holdPolledI old).resetRequest = s.resetRequest := rfl
@[simp] theorem State.holdPolledI_env (old : Bool) : (s.holdPolledI old).env = s.env := rfl
@[simp] theorem State.holdPolledI_cfg (old : Bool) : (s.holdPolledI old).cfg = s.cfg := rfl
@[simp] theorem State.holdPolledI_polledI (old : Bool) : (s.holdPolledI old).polledI = match s.cfg.irqLatency with | .none => none | .oneInstruction => some old := rfl
@[simp] theorem State.holdPolledI_draws (old : Bool) : (s.holdPolledI old).draws = s.draws := rfl

/- `State.setAlu` -/
@[simp] theorem State.setAlu_a (r : AluResult) : (s.setAlu r).a = r.a := rfl
@[simp] theorem State.setAlu_x (r : AluResult) : (s.setAlu r).x = s.x := rfl
@[simp] theorem State.setAlu_y (r : AluResult) : (s.setAlu r).y = s.y := rfl
@[simp] theorem State.setAlu_sp (r : AluResult) : (s.setAlu r).sp = s.sp := rfl
@[simp] theorem State.setAlu_pc (r : AluResult) : (s.setAlu r).pc = s.pc := rfl
@[simp] theorem State.setAlu_c (r : AluResult) : (s.setAlu r).c = r.c := rfl
@[simp] theorem State.setAlu_z (r : AluResult) : (s.setAlu r).z = r.z := rfl
@[simp] theorem State.setAlu_i (r : AluResult) : (s.setAlu r).i = s.i := rfl
@[simp] theorem State.setAlu_d (r : AluResult) : (s.setAlu r).d = s.d := rfl
@[simp] theorem State.setAlu_v (r : AluResult) : (s.setAlu r).v = r.v := rfl
@[simp] theorem State.setAlu_n (r : AluResult) : (s.setAlu r).n = r.n := rfl
@[simp] theorem State.setAlu_mem (r : AluResult) : (s.setAlu r).mem = s.mem := rfl
@[simp] theorem State.setAlu_nmiPending (r : AluResult) : (s.setAlu r).nmiPending = s.nmiPending := rfl
@[simp] theorem State.setAlu_irqLine (r : AluResult) : (s.setAlu r).irqLine = s.irqLine := rfl
@[simp] theorem State.setAlu_resetRequest (r : AluResult) : (s.setAlu r).resetRequest = s.resetRequest := rfl
@[simp] theorem State.setAlu_env (r : AluResult) : (s.setAlu r).env = s.env := rfl
@[simp] theorem State.setAlu_cfg (r : AluResult) : (s.setAlu r).cfg = s.cfg := rfl
@[simp] theorem State.setAlu_polledI (r : AluResult) : (s.setAlu r).polledI = s.polledI := rfl
@[simp] theorem State.setAlu_draws (r : AluResult) : (s.setAlu r).draws = s.draws := rfl

/- `State.setCompare` -/
@[simp] theorem State.setCompare_a (r m : Byte) : (s.setCompare r m).a = s.a := rfl
@[simp] theorem State.setCompare_x (r m : Byte) : (s.setCompare r m).x = s.x := rfl
@[simp] theorem State.setCompare_y (r m : Byte) : (s.setCompare r m).y = s.y := rfl
@[simp] theorem State.setCompare_sp (r m : Byte) : (s.setCompare r m).sp = s.sp := rfl
@[simp] theorem State.setCompare_pc (r m : Byte) : (s.setCompare r m).pc = s.pc := rfl
@[simp] theorem State.setCompare_c (r m : Byte) : (s.setCompare r m).c = decide (m.toNat ≤ r.toNat) := rfl
@[simp] theorem State.setCompare_z (r m : Byte) : (s.setCompare r m).z = decide (r - m = 0) := rfl
@[simp] theorem State.setCompare_i (r m : Byte) : (s.setCompare r m).i = s.i := rfl
@[simp] theorem State.setCompare_d (r m : Byte) : (s.setCompare r m).d = s.d := rfl
@[simp] theorem State.setCompare_v (r m : Byte) : (s.setCompare r m).v = s.v := rfl
@[simp] theorem State.setCompare_n (r m : Byte) : (s.setCompare r m).n = (r - m).getLsbD 7 := rfl
@[simp] theorem State.setCompare_mem (r m : Byte) : (s.setCompare r m).mem = s.mem := rfl
@[simp] theorem State.setCompare_nmiPending (r m : Byte) : (s.setCompare r m).nmiPending = s.nmiPending := rfl
@[simp] theorem State.setCompare_irqLine (r m : Byte) : (s.setCompare r m).irqLine = s.irqLine := rfl
@[simp] theorem State.setCompare_resetRequest (r m : Byte) : (s.setCompare r m).resetRequest = s.resetRequest := rfl
@[simp] theorem State.setCompare_env (r m : Byte) : (s.setCompare r m).env = s.env := rfl
@[simp] theorem State.setCompare_cfg (r m : Byte) : (s.setCompare r m).cfg = s.cfg := rfl
@[simp] theorem State.setCompare_polledI (r m : Byte) : (s.setCompare r m).polledI = s.polledI := rfl
@[simp] theorem State.setCompare_draws (r m : Byte) : (s.setCompare r m).draws = s.draws := rfl

/- `State.setBitTest` -/
@[simp] theorem State.setBitTest_a (m : Byte) : (s.setBitTest m).a = s.a := rfl
@[simp] theorem State.setBitTest_x (m : Byte) : (s.setBitTest m).x = s.x := rfl
@[simp] theorem State.setBitTest_y (m : Byte) : (s.setBitTest m).y = s.y := rfl
@[simp] theorem State.setBitTest_sp (m : Byte) : (s.setBitTest m).sp = s.sp := rfl
@[simp] theorem State.setBitTest_pc (m : Byte) : (s.setBitTest m).pc = s.pc := rfl
@[simp] theorem State.setBitTest_c (m : Byte) : (s.setBitTest m).c = s.c := rfl
@[simp] theorem State.setBitTest_z (m : Byte) : (s.setBitTest m).z = decide (s.a &&& m = 0) := rfl
@[simp] theorem State.setBitTest_i (m : Byte) : (s.setBitTest m).i = s.i := rfl
@[simp] theorem State.setBitTest_d (m : Byte) : (s.setBitTest m).d = s.d := rfl
@[simp] theorem State.setBitTest_v (m : Byte) : (s.setBitTest m).v = m.getLsbD 6 := rfl
@[simp] theorem State.setBitTest_n (m : Byte) : (s.setBitTest m).n = m.getLsbD 7 := rfl
@[simp] theorem State.setBitTest_mem (m : Byte) : (s.setBitTest m).mem = s.mem := rfl
@[simp] theorem State.setBitTest_nmiPending (m : Byte) : (s.setBitTest m).nmiPending = s.nmiPending := rfl
@[simp] theorem State.setBitTest_irqLine (m : Byte) : (s.setBitTest m).irqLine = s.irqLine := rfl
@[simp] theorem State.setBitTest_resetRequest (m : Byte) : (s.setBitTest m).resetRequest = s.resetRequest := rfl
@[simp] theorem State.setBitTest_env (m : Byte) : (s.setBitTest m).env = s.env := rfl
@[simp] theorem State.setBitTest_cfg (m : Byte) : (s.setBitTest m).cfg = s.cfg := rfl
@[simp] theorem State.setBitTest_polledI (m : Byte) : (s.setBitTest m).polledI = s.polledI := rfl
@[simp] theorem State.setBitTest_draws (m : Byte) : (s.setBitTest m).draws = s.draws := rfl

/- `State.advance` -/
@[simp] theorem State.advance_a (len : Nat) : (s.advance len).a = s.a := rfl
@[simp] theorem State.advance_x (len : Nat) : (s.advance len).x = s.x := rfl
@[simp] theorem State.advance_y (len : Nat) : (s.advance len).y = s.y := rfl
@[simp] theorem State.advance_sp (len : Nat) : (s.advance len).sp = s.sp := rfl
@[simp] theorem State.advance_pc (len : Nat) : (s.advance len).pc = s.pc + BitVec.ofNat 16 len := rfl
@[simp] theorem State.advance_c (len : Nat) : (s.advance len).c = s.c := rfl
@[simp] theorem State.advance_z (len : Nat) : (s.advance len).z = s.z := rfl
@[simp] theorem State.advance_i (len : Nat) : (s.advance len).i = s.i := rfl
@[simp] theorem State.advance_d (len : Nat) : (s.advance len).d = s.d := rfl
@[simp] theorem State.advance_v (len : Nat) : (s.advance len).v = s.v := rfl
@[simp] theorem State.advance_n (len : Nat) : (s.advance len).n = s.n := rfl
@[simp] theorem State.advance_mem (len : Nat) : (s.advance len).mem = s.mem := rfl
@[simp] theorem State.advance_nmiPending (len : Nat) : (s.advance len).nmiPending = s.nmiPending := rfl
@[simp] theorem State.advance_irqLine (len : Nat) : (s.advance len).irqLine = s.irqLine := rfl
@[simp] theorem State.advance_resetRequest (len : Nat) : (s.advance len).resetRequest = s.resetRequest := rfl
@[simp] theorem State.advance_env (len : Nat) : (s.advance len).env = s.env := rfl
@[simp] theorem State.advance_cfg (len : Nat) : (s.advance len).cfg = s.cfg := rfl
@[simp] theorem State.advance_polledI (len : Nat) : (s.advance len).polledI = none := rfl
@[simp] theorem State.advance_draws (len : Nat) : (s.advance len).draws = s.draws + 1 := rfl

/- `State.beginEvent` -/
@[simp] theorem State.beginEvent_a : (s.beginEvent).a = s.a := rfl
@[simp] theorem State.beginEvent_x : (s.beginEvent).x = s.x := rfl
@[simp] theorem State.beginEvent_y : (s.beginEvent).y = s.y := rfl
@[simp] theorem State.beginEvent_sp : (s.beginEvent).sp = s.sp := rfl
@[simp] theorem State.beginEvent_pc : (s.beginEvent).pc = s.pc := rfl
@[simp] theorem State.beginEvent_c : (s.beginEvent).c = s.c := rfl
@[simp] theorem State.beginEvent_z : (s.beginEvent).z = s.z := rfl
@[simp] theorem State.beginEvent_i : (s.beginEvent).i = s.i := rfl
@[simp] theorem State.beginEvent_d : (s.beginEvent).d = s.d := rfl
@[simp] theorem State.beginEvent_v : (s.beginEvent).v = s.v := rfl
@[simp] theorem State.beginEvent_n : (s.beginEvent).n = s.n := rfl
@[simp] theorem State.beginEvent_mem : (s.beginEvent).mem = s.mem := rfl
@[simp] theorem State.beginEvent_nmiPending : (s.beginEvent).nmiPending = s.nmiPending := rfl
@[simp] theorem State.beginEvent_irqLine : (s.beginEvent).irqLine = s.irqLine := rfl
@[simp] theorem State.beginEvent_resetRequest : (s.beginEvent).resetRequest = s.resetRequest := rfl
@[simp] theorem State.beginEvent_env : (s.beginEvent).env = s.env := rfl
@[simp] theorem State.beginEvent_cfg : (s.beginEvent).cfg = s.cfg := rfl
@[simp] theorem State.beginEvent_polledI : (s.beginEvent).polledI = none := rfl
@[simp] theorem State.beginEvent_draws : (s.beginEvent).draws = s.draws + 1 := rfl

end Sys2Proof.Machine
end

