-- ==== Sys2Proof/Laws/Ops.lean ====
section
/-! SUPPORT. For each shared operation over memory, the stack and traps, what it can do. -/

namespace Sys2Proof.Machine

variable (s : State)

/-- `{h, l} = h * 256 + l` (R5). -/
@[simp] theorem word_toNat (h l : Byte) : (word h l).toNat = h.toNat * 256 + l.toNat := by
  unfold word
  rw [BitVec.toNat_append, ← Nat.shiftLeft_add_eq_or_of_lt l.isLt, Nat.shiftLeft_eq]

@[simp] theorem lo_toNat (w : Word) : (lo w).toNat = w.toNat % 256 := by
  simp [lo]

@[simp] theorem hi_toNat (w : Word) : (hi w).toNat = w.toNat / 256 := by
  have := w.isLt
  simp only [hi, BitVec.toNat_setWidth, BitVec.toNat_ushiftRight, Nat.shiftRight_eq_div_pow]
  omega

@[simp] theorem zext16_toNat (b : Byte) : (zext16 b).toNat = b.toNat := by
  have := b.isLt
  simp only [zext16, BitVec.toNat_setWidth]
  omega

theorem word_inj {h l h' l' : Byte} (e : word h l = word h' l') : h = h' ∧ l = l' := by
  have e := congrArg BitVec.toNat e
  simp only [word_toNat] at e
  constructor <;> bv_omega

@[simp] theorem word_hi_lo (w : Word) : word (hi w) (lo w) = w := by
  apply BitVec.eq_of_toNat_eq
  simp only [word_toNat, hi_toNat, lo_toNat]
  omega

@[simp] theorem lo_word (h l : Byte) : lo (word h l) = l := by
  apply BitVec.eq_of_toNat_eq
  have := l.isLt
  simp only [word_toNat, lo_toNat]
  omega

@[simp] theorem hi_word (h l : Byte) : hi (word h l) = h := by
  apply BitVec.eq_of_toNat_eq
  have := l.isLt
  simp only [word_toNat, hi_toNat]
  omega

/-- An address is inside the address space (R40). -/
theorem addr_lt (a : Word) : a.toNat < Memory.size := a.isLt

/-- A read depends on the memory map, the memory and the draw number alone. -/
theorem State.read_congr {s t : State} (hc : s.cfg = t.cfg) (hm : s.mem = t.mem) (hd : s.draws = t.draws)
    (k : Access) (a : Word) : s.read k a = t.read k a := by
  simp only [State.read, State.classOf, hc, hm, hd]

/-- RAM and ROM give the stored byte (R43). -/
theorem State.read_stored {s : State} {a : Word} (h : s.classOf a = .ram ∨ s.classOf a = .rom) (k : Access) :
    s.read k a = Memory.read s.mem a.toNat := by
  rcases h with h | h <;> simp [State.read, h]

/-- UNMAPPED and DEVICE give a free value (R43, U4, U5). -/
theorem State.read_open {s : State} {a : Word} (h : s.classOf a = .unmapped ∨ s.classOf a = .device) (k : Access) :
    s.read k a = Config.anyByte s.draws (.read k) := by
  rcases h with h | h <;> simp [State.read, h]

/-- RAM is written (R43). -/
theorem State.write_ram {s : State} {a : Word} (h : s.classOf a = .ram) (v : Byte) :
    s.write a v = { s with mem := Memory.write s.mem a.toNat v } := by
  simp [State.write, h]

/-- A store outside RAM has no effect (R43, U5). -/
theorem State.write_not_ram {s : State} {a : Word} (h : s.classOf a ≠ .ram) (v : Byte) : s.write a v = s := by
  unfold State.write
  split <;> first | rfl | contradiction

/-- All that a store can do: it writes one cell, or nothing. -/
theorem State.write_cases (a : Word) (v : Byte) :
    s.write a v = { s with mem := Memory.write s.mem a.toNat v } ∨ s.write a v = s := by
  by_cases h : s.classOf a = .ram
  · exact .inl (State.write_ram h v)
  · exact .inr (State.write_not_ram h v)

/-- A store keeps the canonical form. -/
theorem State.write_wf {s : State} (h : Memory.wf s.mem = true) (a : Word) (v : Byte) :
    Memory.wf (s.write a v).mem = true := by
  rcases s.write_cases a v with e | e <;> rw [e]
  · exact Memory.wf_write (addr_lt a) v h
  · exact h

/-- The contents of memory after a store (R43): the byte at the address, where that is RAM, and nothing else. -/
theorem State.write_read {s : State} (h : Memory.wf s.mem = true) (a : Word) (v : Byte) (a' : Nat) :
    Memory.read (s.write a v).mem a' =
      if a' = a.toNat ∧ s.classOf a = .ram then v else Memory.read s.mem a' := by
  by_cases hc : s.classOf a = .ram
  · rw [State.write_ram hc]
    simp only [Memory.read_write h, hc, and_true]
  · rw [State.write_not_ram hc, if_neg (fun e => hc e.2)]

/- `State.write` -/
@[simp] theorem State.write_a (a : Word) (b : Byte) : (s.write a b).a = s.a := by
  rcases s.write_cases a b with e | e <;> rw [e]
@[simp] theorem State.write_x (a : Word) (b : Byte) : (s.write a b).x = s.x := by
  rcases s.write_cases a b with e | e <;> rw [e]
@[simp] theorem State.write_y (a : Word) (b : Byte) : (s.write a b).y = s.y := by
  rcases s.write_cases a b with e | e <;> rw [e]
@[simp] theorem State.write_sp (a : Word) (b : Byte) : (s.write a b).sp = s.sp := by
  rcases s.write_cases a b with e | e <;> rw [e]
@[simp] theorem State.write_pc (a : Word) (b : Byte) : (s.write a b).pc = s.pc := by
  rcases s.write_cases a b with e | e <;> rw [e]
@[simp] theorem State.write_c (a : Word) (b : Byte) : (s.write a b).c = s.c := by
  rcases s.write_cases a b with e | e <;> rw [e]
@[simp] theorem State.write_z (a : Word) (b : Byte) : (s.write a b).z = s.z := by
  rcases s.write_cases a b with e | e <;> rw [e]
@[simp] theorem State.write_i (a : Word) (b : Byte) : (s.write a b).i = s.i := by
  rcases s.write_cases a b with e | e <;> rw [e]
@[simp] theorem State.write_d (a : Word) (b : Byte) : (s.write a b).d = s.d := by
  rcases s.write_cases a b with e | e <;> rw [e]
@[simp] theorem State.write_v (a : Word) (b : Byte) : (s.write a b).v = s.v := by
  rcases s.write_cases a b with e | e <;> rw [e]
@[simp] theorem State.write_n (a : Word) (b : Byte) : (s.write a b).n = s.n := by
  rcases s.write_cases a b with e | e <;> rw [e]
@[simp] theorem State.write_nmiPending (a : Word) (b : Byte) : (s.write a b).nmiPending = s.nmiPending := by
  rcases s.write_cases a b with e | e <;> rw [e]
@[simp] theorem State.write_irqLine (a : Word) (b : Byte) : (s.write a b).irqLine = s.irqLine := by
  rcases s.write_cases a b with e | e <;> rw [e]
@[simp] theorem State.write_resetRequest (a : Word) (b : Byte) : (s.write a b).resetRequest = s.resetRequest := by
  rcases s.write_cases a b with e | e <;> rw [e]
@[simp] theorem State.write_env (a : Word) (b : Byte) : (s.write a b).env = s.env := by
  rcases s.write_cases a b with e | e <;> rw [e]
@[simp] theorem State.write_cfg (a : Word) (b : Byte) : (s.write a b).cfg = s.cfg := by
  rcases s.write_cases a b with e | e <;> rw [e]
@[simp] theorem State.write_polledI (a : Word) (b : Byte) : (s.write a b).polledI = s.polledI := by
  rcases s.write_cases a b with e | e <;> rw [e]
@[simp] theorem State.write_draws (a : Word) (b : Byte) : (s.write a b).draws = s.draws := by
  rcases s.write_cases a b with e | e <;> rw [e]

@[simp] theorem State.write_classOf (a a' : Word) (b : Byte) : (s.write a b).classOf a' = s.classOf a' := by
  simp [State.classOf]

/- `State.push` -/
theorem State.push_eq (b : Byte) : s.push b = { s.write s.stackAddr b with sp := s.sp - 1 } := by
  simp [State.push]

@[simp] theorem State.push_a (b : Byte) : (s.push b).a = s.a := by simp [State.push_eq]
@[simp] theorem State.push_x (b : Byte) : (s.push b).x = s.x := by simp [State.push_eq]
@[simp] theorem State.push_y (b : Byte) : (s.push b).y = s.y := by simp [State.push_eq]
@[simp] theorem State.push_sp (b : Byte) : (s.push b).sp = s.sp - 1 := by simp [State.push_eq]
@[simp] theorem State.push_pc (b : Byte) : (s.push b).pc = s.pc := by simp [State.push_eq]
@[simp] theorem State.push_c (b : Byte) : (s.push b).c = s.c := by simp [State.push_eq]
@[simp] theorem State.push_z (b : Byte) : (s.push b).z = s.z := by simp [State.push_eq]
@[simp] theorem State.push_i (b : Byte) : (s.push b).i = s.i := by simp [State.push_eq]
@[simp] theorem State.push_d (b : Byte) : (s.push b).d = s.d := by simp [State.push_eq]
@[simp] theorem State.push_v (b : Byte) : (s.push b).v = s.v := by simp [State.push_eq]
@[simp] theorem State.push_n (b : Byte) : (s.push b).n = s.n := by simp [State.push_eq]
@[simp] theorem State.push_mem (b : Byte) : (s.push b).mem = (s.write s.stackAddr b).mem := by simp [State.push_eq]
@[simp] theorem State.push_nmiPending (b : Byte) : (s.push b).nmiPending = s.nmiPending := by simp [State.push_eq]
@[simp] theorem State.push_irqLine (b : Byte) : (s.push b).irqLine = s.irqLine := by simp [State.push_eq]
@[simp] theorem State.push_resetRequest (b : Byte) : (s.push b).resetRequest = s.resetRequest := by simp [State.push_eq]
@[simp] theorem State.push_env (b : Byte) : (s.push b).env = s.env := by simp [State.push_eq]
@[simp] theorem State.push_cfg (b : Byte) : (s.push b).cfg = s.cfg := by simp [State.push_eq]
@[simp] theorem State.push_polledI (b : Byte) : (s.push b).polledI = s.polledI := by simp [State.push_eq]
@[simp] theorem State.push_draws (b : Byte) : (s.push b).draws = s.draws := by simp [State.push_eq]

@[simp] theorem State.push_classOf (a : Word) (b : Byte) : (s.push b).classOf a = s.classOf a := by
  simp [State.classOf]

/- `State.push16` -/
@[simp] theorem State.push16_a (w : Word) : (s.push16 w).a = s.a := by simp [State.push16]
@[simp] theorem State.push16_x (w : Word) : (s.push16 w).x = s.x := by simp [State.push16]
@[simp] theorem State.push16_y (w : Word) : (s.push16 w).y = s.y := by simp [State.push16]
@[simp] theorem State.push16_sp (w : Word) : (s.push16 w).sp = s.sp - 2 := by
  simp [State.push16, BitVec.sub_sub]
@[simp] theorem State.push16_pc (w : Word) : (s.push16 w).pc = s.pc := by simp [State.push16]
@[simp] theorem State.push16_c (w : Word) : (s.push16 w).c = s.c := by simp [State.push16]
@[simp] theorem State.push16_z (w : Word) : (s.push16 w).z = s.z := by simp [State.push16]
@[simp] theorem State.push16_i (w : Word) : (s.push16 w).i = s.i := by simp [State.push16]
@[simp] theorem State.push16_d (w : Word) : (s.push16 w).d = s.d := by simp [State.push16]
@[simp] theorem State.push16_v (w : Word) : (s.push16 w).v = s.v := by simp [State.push16]
@[simp] theorem State.push16_n (w : Word) : (s.push16 w).n = s.n := by simp [State.push16]
@[simp] theorem State.push16_nmiPending (w : Word) : (s.push16 w).nmiPending = s.nmiPending := by simp [State.push16]
@[simp] theorem State.push16_irqLine (w : Word) : (s.push16 w).irqLine = s.irqLine := by simp [State.push16]
@[simp] theorem State.push16_resetRequest (w : Word) : (s.push16 w).resetRequest = s.resetRequest := by simp [State.push16]
@[simp] theorem State.push16_env (w : Word) : (s.push16 w).env = s.env := by simp [State.push16]
@[simp] theorem State.push16_cfg (w : Word) : (s.push16 w).cfg = s.cfg := by simp [State.push16]
@[simp] theorem State.push16_polledI (w : Word) : (s.push16 w).polledI = s.polledI := by simp [State.push16]
@[simp] theorem State.push16_draws (w : Word) : (s.push16 w).draws = s.draws := by simp [State.push16]

/-- A push keeps the canonical form. -/
theorem State.push_wf {s : State} (h : Memory.wf s.mem = true) (b : Byte) : Memory.wf (s.push b).mem = true := by
  rw [State.push_mem]
  exact State.write_wf h _ _

theorem State.push16_wf {s : State} (h : Memory.wf s.mem = true) (w : Word) : Memory.wf (s.push16 w).mem = true :=
  State.push_wf (State.push_wf h _) _

/- `State.pull` moves S and changes nothing else. -/
@[simp] theorem State.pull_snd (k : Access) : (s.pull k).2 = { s with sp := s.sp + 1 } := rfl

theorem State.pull_fst (k : Access) : (s.pull k).1 = s.read k (word 0x01 (s.sp + 1)) := rfl

@[simp] theorem State.pull16_snd (k k' : Access) : (s.pull16 k k').2 = { s with sp := s.sp + 1 + 1 } := rfl

theorem State.pull16_fst (k k' : Access) :
    (s.pull16 k k').1 = word (s.read k' (word 0x01 (s.sp + 1 + 1))) (s.read k (word 0x01 (s.sp + 1))) := rfl

/-- All that trap entry does to a state (R224): three bytes pushed, I set, PC from the vector. -/
theorem State.trapEntry_eq (ret : Word) (b : Bool) (vector : Word) :
    s.trapEntry ret b vector =
      { (s.push16 ret).push (s.pImage b) with
        i := true, pc := ((s.push16 ret).push (s.pImage b)).readVector vector } := by
  have hp : (s.push16 ret).pImage b = s.pImage b := by simp [State.pImage]
  simp only [State.trapEntry, hp]
  rfl

@[simp] theorem State.trapEntry_a (ret vector : Word) (b : Bool) : (s.trapEntry ret b vector).a = s.a := by
  simp [State.trapEntry_eq]
@[simp] theorem State.trapEntry_x (ret vector : Word) (b : Bool) : (s.trapEntry ret b vector).x = s.x := by
  simp [State.trapEntry_eq]
@[simp] theorem State.trapEntry_y (ret vector : Word) (b : Bool) : (s.trapEntry ret b vector).y = s.y := by
  simp [State.trapEntry_eq]
@[simp] theorem State.trapEntry_sp (ret vector : Word) (b : Bool) : (s.trapEntry ret b vector).sp = s.sp - 3 := by
  simp [State.trapEntry_eq, BitVec.sub_sub]
@[simp] theorem State.trapEntry_c (ret vector : Word) (b : Bool) : (s.trapEntry ret b vector).c = s.c := by
  simp [State.trapEntry_eq]
@[simp] theorem State.trapEntry_z (ret vector : Word) (b : Bool) : (s.trapEntry ret b vector).z = s.z := by
  simp [State.trapEntry_eq]
@[simp] theorem State.trapEntry_i (ret vector : Word) (b : Bool) : (s.trapEntry ret b vector).i = true := by
  simp [State.trapEntry_eq]
@[simp] theorem State.trapEntry_d (ret vector : Word) (b : Bool) : (s.trapEntry ret b vector).d = s.d := by
  simp [State.trapEntry_eq]
@[simp] theorem State.trapEntry_v (ret vector : Word) (b : Bool) : (s.trapEntry ret b vector).v = s.v := by
  simp [State.trapEntry_eq]
@[simp] theorem State.trapEntry_n (ret vector : Word) (b : Bool) : (s.trapEntry ret b vector).n = s.n := by
  simp [State.trapEntry_eq]
@[simp] theorem State.trapEntry_nmiPending (ret vector : Word) (b : Bool) : (s.trapEntry ret b vector).nmiPending = s.nmiPending := by
  simp [State.trapEntry_eq]
@[simp] theorem State.trapEntry_irqLine (ret vector : Word) (b : Bool) : (s.trapEntry ret b vector).irqLine = s.irqLine := by
  simp [State.trapEntry_eq]
@[simp] theorem State.trapEntry_resetRequest (ret vector : Word) (b : Bool) : (s.trapEntry ret b vector).resetRequest = s.resetRequest := by
  simp [State.trapEntry_eq]
@[simp] theorem State.trapEntry_env (ret vector : Word) (b : Bool) : (s.trapEntry ret b vector).env = s.env := by
  simp [State.trapEntry_eq]
@[simp] theorem State.trapEntry_cfg (ret vector : Word) (b : Bool) : (s.trapEntry ret b vector).cfg = s.cfg := by
  simp [State.trapEntry_eq]
@[simp] theorem State.trapEntry_polledI (ret vector : Word) (b : Bool) : (s.trapEntry ret b vector).polledI = s.polledI := by
  simp [State.trapEntry_eq]
@[simp] theorem State.trapEntry_draws (ret vector : Word) (b : Bool) : (s.trapEntry ret b vector).draws = s.draws := by
  simp [State.trapEntry_eq]

/-- The memory after trap entry: the three pushes of R224. -/
theorem State.trapEntry_mem (ret vector : Word) (b : Bool) :
    (s.trapEntry ret b vector).mem = ((s.push16 ret).push (s.pImage b)).mem := by
  simp [State.trapEntry_eq]

theorem State.trapEntry_wf {s : State} (h : Memory.wf s.mem = true) (ret vector : Word) (b : Bool) :
    Memory.wf (s.trapEntry ret b vector).mem = true := by
  rw [State.trapEntry_mem]
  exact State.push_wf (State.push16_wf h _) _

/-- All that a return from a trap does to a state (R191): P and PC from the stack, S three higher. -/
theorem State.trapReturn_eq :
    s.trapReturn =
      { s.setP (s.read .pull1 (word 0x01 (s.sp + 1))) with
        sp := s.sp + 1 + 1 + 1,
        pc := word (s.read .pull3 (word 0x01 (s.sp + 1 + 1 + 1))) (s.read .pull2 (word 0x01 (s.sp + 1 + 1))) } := rfl

/-- The flags of a P image are the flags it was made of (R23). -/
theorem State.setP_pImage (b : Bool) (t : State) :
    t.setP (s.pImage b) = { t with n := s.n, v := s.v, d := s.d, i := s.i, z := s.z, c := s.c } := by
  unfold State.setP State.pImage
  cases s.n <;> cases s.v <;> cases b <;> cases s.d <;> cases s.i <;> cases s.z <;> cases s.c <;> rfl

/- What a boundary leaves unchanged. -/
@[simp] theorem State.atBoundary_a : s.atBoundary.a = s.a := by
  unfold State.atBoundary
  split <;> rfl
@[simp] theorem State.atBoundary_x : s.atBoundary.x = s.x := by
  unfold State.atBoundary
  split <;> rfl
@[simp] theorem State.atBoundary_y : s.atBoundary.y = s.y := by
  unfold State.atBoundary
  split <;> rfl
@[simp] theorem State.atBoundary_sp : s.atBoundary.sp = s.sp := by
  unfold State.atBoundary
  split <;> rfl
@[simp] theorem State.atBoundary_pc : s.atBoundary.pc = s.pc := by
  unfold State.atBoundary
  split <;> rfl
@[simp] theorem State.atBoundary_c : s.atBoundary.c = s.c := by
  unfold State.atBoundary
  split <;> rfl
@[simp] theorem State.atBoundary_z : s.atBoundary.z = s.z := by
  unfold State.atBoundary
  split <;> rfl
@[simp] theorem State.atBoundary_i : s.atBoundary.i = s.i := by
  unfold State.atBoundary
  split <;> rfl
@[simp] theorem State.atBoundary_d : s.atBoundary.d = s.d := by
  unfold State.atBoundary
  split <;> rfl
@[simp] theorem State.atBoundary_v : s.atBoundary.v = s.v := by
  unfold State.atBoundary
  split <;> rfl
@[simp] theorem State.atBoundary_n : s.atBoundary.n = s.n := by
  unfold State.atBoundary
  split <;> rfl
@[simp] theorem State.atBoundary_mem : s.atBoundary.mem = s.mem := by
  unfold State.atBoundary
  split <;> rfl
@[simp] theorem State.atBoundary_cfg : s.atBoundary.cfg = s.cfg := by
  unfold State.atBoundary
  split <;> rfl
@[simp] theorem State.atBoundary_polledI : s.atBoundary.polledI = s.polledI := by
  unfold State.atBoundary
  split <;> rfl
@[simp] theorem State.atBoundary_draws : s.atBoundary.draws = s.draws := by
  unfold State.atBoundary
  split <;> rfl

/-- With no choice left the boundary changes nothing (log 13). -/
theorem State.atBoundary_nil {s : State} (h : s.env = []) : s.atBoundary = s := by
  simp [State.atBoundary, h]

/- What reset leaves unchanged: R260 writes no memory. -/
@[simp] theorem State.resetRegisters_mem : s.resetRegisters.mem = s.mem := by
  unfold State.resetRegisters
  split <;> rfl
@[simp] theorem State.resetRegisters_irqLine : s.resetRegisters.irqLine = s.irqLine := by
  unfold State.resetRegisters
  split <;> rfl
@[simp] theorem State.resetRegisters_resetRequest : s.resetRegisters.resetRequest = s.resetRequest := by
  unfold State.resetRegisters
  split <;> rfl
@[simp] theorem State.resetRegisters_env : s.resetRegisters.env = s.env := by
  unfold State.resetRegisters
  split <;> rfl
@[simp] theorem State.resetRegisters_cfg : s.resetRegisters.cfg = s.cfg := by
  unfold State.resetRegisters
  split <;> rfl
@[simp] theorem State.resetRegisters_polledI : s.resetRegisters.polledI = s.polledI := by
  unfold State.resetRegisters
  split <;> rfl
@[simp] theorem State.resetRegisters_draws : s.resetRegisters.draws = s.draws := by
  unfold State.resetRegisters
  split <;> rfl
@[simp] theorem State.resetRegisters_i : s.resetRegisters.i = s.i := by
  unfold State.resetRegisters
  split <;> rfl
@[simp] theorem State.resetRegisters_pc : s.resetRegisters.pc = s.pc := by
  unfold State.resetRegisters
  split <;> rfl
@[simp] theorem State.resetRegisters_nmiPending : s.resetRegisters.nmiPending = s.nmiPending := by
  unfold State.resetRegisters
  split <;> rfl

/-- Stores in turn change memory alone. -/
theorem State.writeAll_eq : ∀ (l : List (Word × Byte)) (s : State), s.writeAll l = { s with mem := (s.writeAll l).mem }
  | [], _ => rfl
  | (a, v) :: l, s => by
    rw [State.writeAll, State.writeAll_eq l]
    rcases s.write_cases a v with e | e <;> rw [e]

/-- All that stores in turn can do to memory: they keep the canonical form and every cell that is not RAM (R43). -/
theorem State.writeAll_mem : ∀ (l : List (Word × Byte)) {s : State}, Memory.wf s.mem = true →
    Memory.wf (s.writeAll l).mem = true ∧
    ∀ a : Word, s.classOf a ≠ .ram → Memory.read (s.writeAll l).mem a.toNat = Memory.read s.mem a.toNat
  | [], _, h => ⟨h, fun _ _ => rfl⟩
  | (a, v) :: l, s, h => by
    have ih := State.writeAll_mem l (State.write_wf h a v)
    refine ⟨ih.1, fun a' hc => ?_⟩
    rw [State.writeAll, ih.2 a' (by rwa [State.write_classOf]), State.write_read h, if_neg]
    rintro ⟨e, hr⟩
    exact hc (BitVec.eq_of_toNat_eq e ▸ hr)

/-- All that an unknown effect does (log 16): registers and flags open, memory by stores, the counter moved on. -/
theorem State.anyEffect_eq :
    s.anyEffect =
      { s with a := s.anyEffect.a, x := s.anyEffect.x, y := s.anyEffect.y, sp := s.anyEffect.sp, pc := s.anyEffect.pc,
               c := s.anyEffect.c, z := s.anyEffect.z, i := s.anyEffect.i, d := s.anyEffect.d, v := s.anyEffect.v,
               n := s.anyEffect.n, mem := s.anyEffect.mem, polledI := none, draws := s.draws + 1 } := by
  unfold State.anyEffect
  rw [State.writeAll_eq]
  rfl

theorem State.anyEffect_mem {s : State} (h : Memory.wf s.mem = true) :
    Memory.wf s.anyEffect.mem = true ∧
    ∀ a : Word, s.classOf a ≠ .ram → Memory.read s.anyEffect.mem a.toNat = Memory.read s.mem a.toNat :=
  State.writeAll_mem _ h

end Sys2Proof.Machine
end

