-- ==== Sys2Proof/Laws/PerInstr.lean ====
section
/-! SUPPORT. Statements about every instruction as syntax, one lemma for each constructor of `Instr`. -/

namespace Sys2Proof.Laws

theorem decode_no {op : Byte} {i : Instr} (h : lookupOpcode op = some (.noOperand i)) (rest : List Byte) :
    decode (op :: rest) = .ok (i, rest) := by
  simp only [decode, h]

theorem decode_byte {op : Byte} {f : Byte → Instr} (h : lookupOpcode op = some (.byteOperand f)) (b : Byte)
    (rest : List Byte) : decode (op :: b :: rest) = .ok (f b, rest) := by
  simp only [decode, h]

theorem decode_word {op : Byte} {f : Word → Instr} (h : lookupOpcode op = some (.wordOperand f)) (w : Word)
    (rest : List Byte) : decode (op :: Machine.lo w :: Machine.hi w :: rest) = .ok (f w, rest) := by
  simp only [decode, h, Machine.word_hi_lo]

/-- Decoding what the encoder wrote gives the instruction back and leaves the bytes after it. -/
def DecodeEncode.Statement (i : Instr) : Prop := ∀ rest : List Byte, decode (encode i ++ rest) = .ok (i, rest)

namespace DecodeEncode

theorem ldaIndX (b : Byte) : Statement (.ldaIndX b) := decode_byte rfl b
theorem ldaZp (b : Byte) : Statement (.ldaZp b) := decode_byte rfl b
theorem ldaImm (b : Byte) : Statement (.ldaImm b) := decode_byte rfl b
theorem ldaAbs (w : Word) : Statement (.ldaAbs w) := decode_word rfl w
theorem ldaIndY (b : Byte) : Statement (.ldaIndY b) := decode_byte rfl b
theorem ldaZpX (b : Byte) : Statement (.ldaZpX b) := decode_byte rfl b
theorem ldaAbsY (w : Word) : Statement (.ldaAbsY w) := decode_word rfl w
theorem ldaAbsX (w : Word) : Statement (.ldaAbsX w) := decode_word rfl w
theorem ldxImm (b : Byte) : Statement (.ldxImm b) := decode_byte rfl b
theorem ldxZp (b : Byte) : Statement (.ldxZp b) := decode_byte rfl b
theorem ldxAbs (w : Word) : Statement (.ldxAbs w) := decode_word rfl w
theorem ldxZpY (b : Byte) : Statement (.ldxZpY b) := decode_byte rfl b
theorem ldxAbsY (w : Word) : Statement (.ldxAbsY w) := decode_word rfl w
theorem ldyImm (b : Byte) : Statement (.ldyImm b) := decode_byte rfl b
theorem ldyZp (b : Byte) : Statement (.ldyZp b) := decode_byte rfl b
theorem ldyAbs (w : Word) : Statement (.ldyAbs w) := decode_word rfl w
theorem ldyZpX (b : Byte) : Statement (.ldyZpX b) := decode_byte rfl b
theorem ldyAbsX (w : Word) : Statement (.ldyAbsX w) := decode_word rfl w
theorem staIndX (b : Byte) : Statement (.staIndX b) := decode_byte rfl b
theorem staZp (b : Byte) : Statement (.staZp b) := decode_byte rfl b
theorem staAbs (w : Word) : Statement (.staAbs w) := decode_word rfl w
theorem staIndY (b : Byte) : Statement (.staIndY b) := decode_byte rfl b
theorem staZpX (b : Byte) : Statement (.staZpX b) := decode_byte rfl b
theorem staAbsY (w : Word) : Statement (.staAbsY w) := decode_word rfl w
theorem staAbsX (w : Word) : Statement (.staAbsX w) := decode_word rfl w
theorem stxZp (b : Byte) : Statement (.stxZp b) := decode_byte rfl b
theorem stxAbs (w : Word) : Statement (.stxAbs w) := decode_word rfl w
theorem stxZpY (b : Byte) : Statement (.stxZpY b) := decode_byte rfl b
theorem styZp (b : Byte) : Statement (.styZp b) := decode_byte rfl b
theorem styAbs (w : Word) : Statement (.styAbs w) := decode_word rfl w
theorem styZpX (b : Byte) : Statement (.styZpX b) := decode_byte rfl b
theorem tax : Statement .tax := decode_no rfl
theorem tay : Statement .tay := decode_no rfl
theorem txa : Statement .txa := decode_no rfl
theorem tya : Statement .tya := decode_no rfl
theorem tsx : Statement .tsx := decode_no rfl
theorem txs : Statement .txs := decode_no rfl
theorem adcIndX (b : Byte) : Statement (.adcIndX b) := decode_byte rfl b
theorem adcZp (b : Byte) : Statement (.adcZp b) := decode_byte rfl b
theorem adcImm (b : Byte) : Statement (.adcImm b) := decode_byte rfl b
theorem adcAbs (w : Word) : Statement (.adcAbs w) := decode_word rfl w
theorem adcIndY (b : Byte) : Statement (.adcIndY b) := decode_byte rfl b
theorem adcZpX (b : Byte) : Statement (.adcZpX b) := decode_byte rfl b
theorem adcAbsY (w : Word) : Statement (.adcAbsY w) := decode_word rfl w
theorem adcAbsX (w : Word) : Statement (.adcAbsX w) := decode_word rfl w
theorem sbcIndX (b : Byte) : Statement (.sbcIndX b) := decode_byte rfl b
theorem sbcZp (b : Byte) : Statement (.sbcZp b) := decode_byte rfl b
theorem sbcImm (b : Byte) : Statement (.sbcImm b) := decode_byte rfl b
theorem sbcAbs (w : Word) : Statement (.sbcAbs w) := decode_word rfl w
theorem sbcIndY (b : Byte) : Statement (.sbcIndY b) := decode_byte rfl b
theorem sbcZpX (b : Byte) : Statement (.sbcZpX b) := decode_byte rfl b
theorem sbcAbsY (w : Word) : Statement (.sbcAbsY w) := decode_word rfl w
theorem sbcAbsX (w : Word) : Statement (.sbcAbsX w) := decode_word rfl w
theorem decZp (b : Byte) : Statement (.decZp b) := decode_byte rfl b
theorem decAbs (w : Word) : Statement (.decAbs w) := decode_word rfl w
theorem decZpX (b : Byte) : Statement (.decZpX b) := decode_byte rfl b
theorem decAbsX (w : Word) : Statement (.decAbsX w) := decode_word rfl w
theorem dex : Statement .dex := decode_no rfl
theorem dey : Statement .dey := decode_no rfl
theorem incZp (b : Byte) : Statement (.incZp b) := decode_byte rfl b
theorem incAbs (w : Word) : Statement (.incAbs w) := decode_word rfl w
theorem incZpX (b : Byte) : Statement (.incZpX b) := decode_byte rfl b
theorem incAbsX (w : Word) : Statement (.incAbsX w) := decode_word rfl w
theorem inx : Statement .inx := decode_no rfl
theorem iny : Statement .iny := decode_no rfl
theorem aslZp (b : Byte) : Statement (.aslZp b) := decode_byte rfl b
theorem aslAcc : Statement .aslAcc := decode_no rfl
theorem aslAbs (w : Word) : Statement (.aslAbs w) := decode_word rfl w
theorem aslZpX (b : Byte) : Statement (.aslZpX b) := decode_byte rfl b
theorem aslAbsX (w : Word) : Statement (.aslAbsX w) := decode_word rfl w
theorem lsrZp (b : Byte) : Statement (.lsrZp b) := decode_byte rfl b
theorem lsrAcc : Statement .lsrAcc := decode_no rfl
theorem lsrAbs (w : Word) : Statement (.lsrAbs w) := decode_word rfl w
theorem lsrZpX (b : Byte) : Statement (.lsrZpX b) := decode_byte rfl b
theorem lsrAbsX (w : Word) : Statement (.lsrAbsX w) := decode_word rfl w
theorem rolZp (b : Byte) : Statement (.rolZp b) := decode_byte rfl b
theorem rolAcc : Statement .rolAcc := decode_no rfl
theorem rolAbs (w : Word) : Statement (.rolAbs w) := decode_word rfl w
theorem rolZpX (b : Byte) : Statement (.rolZpX b) := decode_byte rfl b
theorem rolAbsX (w : Word) : Statement (.rolAbsX w) := decode_word rfl w
theorem rorZp (b : Byte) : Statement (.rorZp b) := decode_byte rfl b
theorem rorAcc : Statement .rorAcc := decode_no rfl
theorem rorAbs (w : Word) : Statement (.rorAbs w) := decode_word rfl w
theorem rorZpX (b : Byte) : Statement (.rorZpX b) := decode_byte rfl b
theorem rorAbsX (w : Word) : Statement (.rorAbsX w) := decode_word rfl w
theorem andIndX (b : Byte) : Statement (.andIndX b) := decode_byte rfl b
theorem andZp (b : Byte) : Statement (.andZp b) := decode_byte rfl b
theorem andImm (b : Byte) : Statement (.andImm b) := decode_byte rfl b
theorem andAbs (w : Word) : Statement (.andAbs w) := decode_word rfl w
theorem andIndY (b : Byte) : Statement (.andIndY b) := decode_byte rfl b
theorem andZpX (b : Byte) : Statement (.andZpX b) := decode_byte rfl b
theorem andAbsY (w : Word) : Statement (.andAbsY w) := decode_word rfl w
theorem andAbsX (w : Word) : Statement (.andAbsX w) := decode_word rfl w
theorem eorIndX (b : Byte) : Statement (.eorIndX b) := decode_byte rfl b
theorem eorZp (b : Byte) : Statement (.eorZp b) := decode_byte rfl b
theorem eorImm (b : Byte) : Statement (.eorImm b) := decode_byte rfl b
theorem eorAbs (w : Word) : Statement (.eorAbs w) := decode_word rfl w
theorem eorIndY (b : Byte) : Statement (.eorIndY b) := decode_byte rfl b
theorem eorZpX (b : Byte) : Statement (.eorZpX b) := decode_byte rfl b
theorem eorAbsY (w : Word) : Statement (.eorAbsY w) := decode_word rfl w
theorem eorAbsX (w : Word) : Statement (.eorAbsX w) := decode_word rfl w
theorem oraIndX (b : Byte) : Statement (.oraIndX b) := decode_byte rfl b
theorem oraZp (b : Byte) : Statement (.oraZp b) := decode_byte rfl b
theorem oraImm (b : Byte) : Statement (.oraImm b) := decode_byte rfl b
theorem oraAbs (w : Word) : Statement (.oraAbs w) := decode_word rfl w
theorem oraIndY (b : Byte) : Statement (.oraIndY b) := decode_byte rfl b
theorem oraZpX (b : Byte) : Statement (.oraZpX b) := decode_byte rfl b
theorem oraAbsY (w : Word) : Statement (.oraAbsY w) := decode_word rfl w
theorem oraAbsX (w : Word) : Statement (.oraAbsX w) := decode_word rfl w
theorem clc : Statement .clc := decode_no rfl
theorem cld : Statement .cld := decode_no rfl
theorem cli : Statement .cli := decode_no rfl
theorem clv : Statement .clv := decode_no rfl
theorem sec : Statement .sec := decode_no rfl
theorem sed : Statement .sed := decode_no rfl
theorem sei : Statement .sei := decode_no rfl
theorem bitZp (b : Byte) : Statement (.bitZp b) := decode_byte rfl b
theorem bitAbs (w : Word) : Statement (.bitAbs w) := decode_word rfl w
theorem cmpIndX (b : Byte) : Statement (.cmpIndX b) := decode_byte rfl b
theorem cmpZp (b : Byte) : Statement (.cmpZp b) := decode_byte rfl b
theorem cmpImm (b : Byte) : Statement (.cmpImm b) := decode_byte rfl b
theorem cmpAbs (w : Word) : Statement (.cmpAbs w) := decode_word rfl w
theorem cmpIndY (b : Byte) : Statement (.cmpIndY b) := decode_byte rfl b
theorem cmpZpX (b : Byte) : Statement (.cmpZpX b) := decode_byte rfl b
theorem cmpAbsY (w : Word) : Statement (.cmpAbsY w) := decode_word rfl w
theorem cmpAbsX (w : Word) : Statement (.cmpAbsX w) := decode_word rfl w
theorem cpxImm (b : Byte) : Statement (.cpxImm b) := decode_byte rfl b
theorem cpxZp (b : Byte) : Statement (.cpxZp b) := decode_byte rfl b
theorem cpxAbs (w : Word) : Statement (.cpxAbs w) := decode_word rfl w
theorem cpyImm (b : Byte) : Statement (.cpyImm b) := decode_byte rfl b
theorem cpyZp (b : Byte) : Statement (.cpyZp b) := decode_byte rfl b
theorem cpyAbs (w : Word) : Statement (.cpyAbs w) := decode_word rfl w
theorem bcc (b : Byte) : Statement (.bcc b) := decode_byte rfl b
theorem bcs (b : Byte) : Statement (.bcs b) := decode_byte rfl b
theorem beq (b : Byte) : Statement (.beq b) := decode_byte rfl b
theorem bmi (b : Byte) : Statement (.bmi b) := decode_byte rfl b
theorem bne (b : Byte) : Statement (.bne b) := decode_byte rfl b
theorem bpl (b : Byte) : Statement (.bpl b) := decode_byte rfl b
theorem bvc (b : Byte) : Statement (.bvc b) := decode_byte rfl b
theorem bvs (b : Byte) : Statement (.bvs b) := decode_byte rfl b
theorem jmpAbs (w : Word) : Statement (.jmpAbs w) := decode_word rfl w
theorem jmpInd (w : Word) : Statement (.jmpInd w) := decode_word rfl w
theorem jsr (w : Word) : Statement (.jsr w) := decode_word rfl w
theorem rti : Statement .rti := decode_no rfl
theorem rts : Statement .rts := decode_no rfl
theorem pha : Statement .pha := decode_no rfl
theorem php : Statement .php := decode_no rfl
theorem pla : Statement .pla := decode_no rfl
theorem plp : Statement .plp := decode_no rfl
theorem brk : Statement .brk := decode_no rfl
theorem nop : Statement .nop := decode_no rfl

end DecodeEncode

end Sys2Proof.Laws
end

