-- ==== Sys2Proof/Laws/Safety.lean ====
section
/-! SUPPORT. The terms of Safety.lean in the terms of the machine's operations. -/

namespace Sys2Proof.Machine

variable (s : State)

/-- `pastInstr` is what `advance` does. -/
theorem State.pastInstr_eq_advance (len : Nat) : s.pastInstr len = s.advance len := by
  simp only [State.pastInstr, State.advance, State.mk.injEq, true_and, and_true]
  apply BitVec.eq_of_toNat_eq
  simp

/-- The invariant, field by field. -/
theorem State.inv_iff :
    s.inv = true ↔ Memory.wf s.mem = true ∧ (s.cfg.irqLatency = .oneInstruction ∨ s.polledI = none) := by
  simp [State.inv]

/-- All that an unassigned opcode byte can do (R79, D13; log 16). -/
theorem State.unassigned_eq (op : Byte) :
    s.unassigned op =
      if s.cfg.illegalOpcode = .fault then .fault (.illegalOpcode op s.pc) else .next s.anyEffect := by
  unfold State.unassigned
  cases s.cfg.illegalOpcode <;> rfl

end Sys2Proof.Machine
end

