-- ==== Sys2Proof/Laws/Syntax.lean ====
section
/-! SUPPORT. `Instr` and R61's table agree: every instruction is well formed, and `assemble` and `Instr.form` are
inverse to each other. -/

namespace Sys2Proof.Laws

/-- Every term of `Instr` is a form that R61's table has. -/
theorem instr_wellFormed (i : Instr) : i.wellFormed = true := by
  cases i <;> rfl

/-- The form of an instruction assembles to it. -/
theorem assemble_form (i : Instr) : assemble i.form.mnemonic i.form.operand = some i := by
  cases i <;> rfl

end Sys2Proof.Laws
end

