-- ==== Sys2Proof/Tests/Slice0.lean ====
section
/-! SUPPORT. Tests on fixed values: ill-formed forms, decoding, one step each of vectors of 95_test_vectors.md, and for
every obligation with hypotheses a state and operands that meet them. -/

namespace Sys2Proof.Tests

open Sys2Proof.Machine

/- Ill-formed forms: a mode that R61's table does not give the mnemonic. -/
theorem test_wf_refuses_sta_immediate : (Form.mk .sta (.immediate 0x10)).wellFormed = false := by decide
theorem test_wf_refuses_lda_accumulator : (Form.mk .lda .accumulator).wellFormed = false := by decide
theorem test_wf_refuses_ldx_zeroPageX : (Form.mk .ldx (.memory (.zpX 0x10))).wellFormed = false := by decide
theorem test_wf_refuses_stx_absoluteY : (Form.mk .stx (.memory (.absY 0x1234))).wellFormed = false := by decide
theorem test_wf_refuses_sty_absoluteX : (Form.mk .sty (.memory (.absX 0x1234))).wellFormed = false := by decide
theorem test_wf_refuses_bit_immediate : (Form.mk .bit (.immediate 0x10)).wellFormed = false := by decide
theorem test_wf_refuses_rol_immediate : (Form.mk .rol (.immediate 0x10)).wellFormed = false := by decide
theorem test_wf_refuses_inc_accumulator : (Form.mk .inc .accumulator).wellFormed = false := by decide
theorem test_wf_refuses_cpx_zeroPageX : (Form.mk .cpx (.memory (.zpX 0x10))).wellFormed = false := by decide
theorem test_wf_refuses_jmp_zeroPage : (Form.mk .jmp (.memory (.zp 0x10))).wellFormed = false := by decide
theorem test_wf_refuses_jsr_indirect : (Form.mk .jsr (.indirect 0x1234)).wellFormed = false := by decide
theorem test_wf_refuses_bcc_absolute : (Form.mk .bcc (.memory (.abs 0x1234))).wellFormed = false := by decide
theorem test_wf_refuses_tax_immediate : (Form.mk .tax (.immediate 0x10)).wellFormed = false := by decide
theorem test_wf_refuses_brk_immediate : (Form.mk .brk (.immediate 0x10)).wellFormed = false := by decide
theorem test_wf_accepts_lda_immediate : (Form.mk .lda (.immediate 0x10)).wellFormed = true := by decide
theorem test_assemble_refuses_sta_immediate : assemble .sta (.immediate 0x10) = none := by decide
theorem test_assemble_refuses_stx_absoluteY : assemble .stx (.memory (.absY 0x1234)) = none := by decide

/- Decoding: for every constructor the word of its row in section 1 of 95_test_vectors.md, the opcode written in binary
as the row has it, with $20 or $1234 (low byte first) as operand. -/
theorem test_decode_data_transfer :
    decode [0b10100001, 0x20] = .ok (.ldaIndX 0x20, []) ∧
    decode [0b10100101, 0x20] = .ok (.ldaZp 0x20, []) ∧
    decode [0b10101001, 0x20] = .ok (.ldaImm 0x20, []) ∧
    decode [0b10101101, 0x34, 0x12] = .ok (.ldaAbs 0x1234, []) ∧
    decode [0b10110001, 0x20] = .ok (.ldaIndY 0x20, []) ∧
    decode [0b10110101, 0x20] = .ok (.ldaZpX 0x20, []) ∧
    decode [0b10111001, 0x34, 0x12] = .ok (.ldaAbsY 0x1234, []) ∧
    decode [0b10111101, 0x34, 0x12] = .ok (.ldaAbsX 0x1234, []) ∧
    decode [0b10100010, 0x20] = .ok (.ldxImm 0x20, []) ∧
    decode [0b10100110, 0x20] = .ok (.ldxZp 0x20, []) ∧
    decode [0b10101110, 0x34, 0x12] = .ok (.ldxAbs 0x1234, []) ∧
    decode [0b10110110, 0x20] = .ok (.ldxZpY 0x20, []) ∧
    decode [0b10111110, 0x34, 0x12] = .ok (.ldxAbsY 0x1234, []) ∧
    decode [0b10100000, 0x20] = .ok (.ldyImm 0x20, []) ∧
    decode [0b10100100, 0x20] = .ok (.ldyZp 0x20, []) ∧
    decode [0b10101100, 0x34, 0x12] = .ok (.ldyAbs 0x1234, []) ∧
    decode [0b10110100, 0x20] = .ok (.ldyZpX 0x20, []) ∧
    decode [0b10111100, 0x34, 0x12] = .ok (.ldyAbsX 0x1234, []) ∧
    decode [0b10000001, 0x20] = .ok (.staIndX 0x20, []) ∧
    decode [0b10000101, 0x20] = .ok (.staZp 0x20, []) ∧
    decode [0b10001101, 0x34, 0x12] = .ok (.staAbs 0x1234, []) ∧
    decode [0b10010001, 0x20] = .ok (.staIndY 0x20, []) ∧
    decode [0b10010101, 0x20] = .ok (.staZpX 0x20, []) ∧
    decode [0b10011001, 0x34, 0x12] = .ok (.staAbsY 0x1234, []) ∧
    decode [0b10011101, 0x34, 0x12] = .ok (.staAbsX 0x1234, []) ∧
    decode [0b10000110, 0x20] = .ok (.stxZp 0x20, []) ∧
    decode [0b10001110, 0x34, 0x12] = .ok (.stxAbs 0x1234, []) ∧
    decode [0b10010110, 0x20] = .ok (.stxZpY 0x20, []) ∧
    decode [0b10000100, 0x20] = .ok (.styZp 0x20, []) ∧
    decode [0b10001100, 0x34, 0x12] = .ok (.styAbs 0x1234, []) ∧
    decode [0b10010100, 0x20] = .ok (.styZpX 0x20, []) :=
  ⟨rfl, rfl, rfl, rfl, rfl, rfl, rfl, rfl, rfl, rfl, rfl, rfl, rfl, rfl, rfl, rfl, rfl, rfl, rfl, rfl, rfl, rfl,
    rfl, rfl, rfl, rfl, rfl, rfl, rfl, rfl, rfl⟩

theorem test_decode_register_transfer :
    decode [0b10101010] = .ok (.tax, []) ∧
    decode [0b10101000] = .ok (.tay, []) ∧
    decode [0b10001010] = .ok (.txa, []) ∧
    decode [0b10011000] = .ok (.tya, []) ∧
    decode [0b10111010] = .ok (.tsx, []) ∧
    decode [0b10011010] = .ok (.txs, []) :=
  ⟨rfl, rfl, rfl, rfl, rfl, rfl⟩

theorem test_decode_add_subtract :
    decode [0b01100001, 0x20] = .ok (.adcIndX 0x20, []) ∧
    decode [0b01100101, 0x20] = .ok (.adcZp 0x20, []) ∧
    decode [0b01101001, 0x20] = .ok (.adcImm 0x20, []) ∧
    decode [0b01101101, 0x34, 0x12] = .ok (.adcAbs 0x1234, []) ∧
    decode [0b01110001, 0x20] = .ok (.adcIndY 0x20, []) ∧
    decode [0b01110101, 0x20] = .ok (.adcZpX 0x20, []) ∧
    decode [0b01111001, 0x34, 0x12] = .ok (.adcAbsY 0x1234, []) ∧
    decode [0b01111101, 0x34, 0x12] = .ok (.adcAbsX 0x1234, []) ∧
    decode [0b11100001, 0x20] = .ok (.sbcIndX 0x20, []) ∧
    decode [0b11100101, 0x20] = .ok (.sbcZp 0x20, []) ∧
    decode [0b11101001, 0x20] = .ok (.sbcImm 0x20, []) ∧
    decode [0b11101101, 0x34, 0x12] = .ok (.sbcAbs 0x1234, []) ∧
    decode [0b11110001, 0x20] = .ok (.sbcIndY 0x20, []) ∧
    decode [0b11110101, 0x20] = .ok (.sbcZpX 0x20, []) ∧
    decode [0b11111001, 0x34, 0x12] = .ok (.sbcAbsY 0x1234, []) ∧
    decode [0b11111101, 0x34, 0x12] = .ok (.sbcAbsX 0x1234, []) :=
  ⟨rfl, rfl, rfl, rfl, rfl, rfl, rfl, rfl, rfl, rfl, rfl, rfl, rfl, rfl, rfl, rfl⟩

theorem test_decode_increment_decrement :
    decode [0b11000110, 0x20] = .ok (.decZp 0x20, []) ∧
    decode [0b11001110, 0x34, 0x12] = .ok (.decAbs 0x1234, []) ∧
    decode [0b11010110, 0x20] = .ok (.decZpX 0x20, []) ∧
    decode [0b11011110, 0x34, 0x12] = .ok (.decAbsX 0x1234, []) ∧
    decode [0b11001010] = .ok (.dex, []) ∧
    decode [0b10001000] = .ok (.dey, []) ∧
    decode [0b11100110, 0x20] = .ok (.incZp 0x20, []) ∧
    decode [0b11101110, 0x34, 0x12] = .ok (.incAbs 0x1234, []) ∧
    decode [0b11110110, 0x20] = .ok (.incZpX 0x20, []) ∧
    decode [0b11111110, 0x34, 0x12] = .ok (.incAbsX 0x1234, []) ∧
    decode [0b11101000] = .ok (.inx, []) ∧
    decode [0b11001000] = .ok (.iny, []) :=
  ⟨rfl, rfl, rfl, rfl, rfl, rfl, rfl, rfl, rfl, rfl, rfl, rfl⟩

theorem test_decode_rotate_shift :
    decode [0b00000110, 0x20] = .ok (.aslZp 0x20, []) ∧
    decode [0b00001010] = .ok (.aslAcc, []) ∧
    decode [0b00001110, 0x34, 0x12] = .ok (.aslAbs 0x1234, []) ∧
    decode [0b00010110, 0x20] = .ok (.aslZpX 0x20, []) ∧
    decode [0b00011110, 0x34, 0x12] = .ok (.aslAbsX 0x1234, []) ∧
    decode [0b01000110, 0x20] = .ok (.lsrZp 0x20, []) ∧
    decode [0b01001010] = .ok (.lsrAcc, []) ∧
    decode [0b01001110, 0x34, 0x12] = .ok (.lsrAbs 0x1234, []) ∧
    decode [0b01010110, 0x20] = .ok (.lsrZpX 0x20, []) ∧
    decode [0b01011110, 0x34, 0x12] = .ok (.lsrAbsX 0x1234, []) ∧
    decode [0b00100110, 0x20] = .ok (.rolZp 0x20, []) ∧
    decode [0b00101010] = .ok (.rolAcc, []) ∧
    decode [0b00101110, 0x34, 0x12] = .ok (.rolAbs 0x1234, []) ∧
    decode [0b00110110, 0x20] = .ok (.rolZpX 0x20, []) ∧
    decode [0b00111110, 0x34, 0x12] = .ok (.rolAbsX 0x1234, []) ∧
    decode [0b01100110, 0x20] = .ok (.rorZp 0x20, []) ∧
    decode [0b01101010] = .ok (.rorAcc, []) ∧
    decode [0b01101110, 0x34, 0x12] = .ok (.rorAbs 0x1234, []) ∧
    decode [0b01110110, 0x20] = .ok (.rorZpX 0x20, []) ∧
    decode [0b01111110, 0x34, 0x12] = .ok (.rorAbsX 0x1234, []) :=
  ⟨rfl, rfl, rfl, rfl, rfl, rfl, rfl, rfl, rfl, rfl, rfl, rfl, rfl, rfl, rfl, rfl, rfl, rfl, rfl, rfl⟩

theorem test_decode_logical :
    decode [0b00100001, 0x20] = .ok (.andIndX 0x20, []) ∧
    decode [0b00100101, 0x20] = .ok (.andZp 0x20, []) ∧
    decode [0b00101001, 0x20] = .ok (.andImm 0x20, []) ∧
    decode [0b00101101, 0x34, 0x12] = .ok (.andAbs 0x1234, []) ∧
    decode [0b00110001, 0x20] = .ok (.andIndY 0x20, []) ∧
    decode [0b00110101, 0x20] = .ok (.andZpX 0x20, []) ∧
    decode [0b00111001, 0x34, 0x12] = .ok (.andAbsY 0x1234, []) ∧
    decode [0b00111101, 0x34, 0x12] = .ok (.andAbsX 0x1234, []) ∧
    decode [0b01000001, 0x20] = .ok (.eorIndX 0x20, []) ∧
    decode [0b01000101, 0x20] = .ok (.eorZp 0x20, []) ∧
    decode [0b01001001, 0x20] = .ok (.eorImm 0x20, []) ∧
    decode [0b01001101, 0x34, 0x12] = .ok (.eorAbs 0x1234, []) ∧
    decode [0b01010001, 0x20] = .ok (.eorIndY 0x20, []) ∧
    decode [0b01010101, 0x20] = .ok (.eorZpX 0x20, []) ∧
    decode [0b01011001, 0x34, 0x12] = .ok (.eorAbsY 0x1234, []) ∧
    decode [0b01011101, 0x34, 0x12] = .ok (.eorAbsX 0x1234, []) ∧
    decode [0b00000001, 0x20] = .ok (.oraIndX 0x20, []) ∧
    decode [0b00000101, 0x20] = .ok (.oraZp 0x20, []) ∧
    decode [0b00001001, 0x20] = .ok (.oraImm 0x20, []) ∧
    decode [0b00001101, 0x34, 0x12] = .ok (.oraAbs 0x1234, []) ∧
    decode [0b00010001, 0x20] = .ok (.oraIndY 0x20, []) ∧
    decode [0b00010101, 0x20] = .ok (.oraZpX 0x20, []) ∧
    decode [0b00011001, 0x34, 0x12] = .ok (.oraAbsY 0x1234, []) ∧
    decode [0b00011101, 0x34, 0x12] = .ok (.oraAbsX 0x1234, []) :=
  ⟨rfl, rfl, rfl, rfl, rfl, rfl, rfl, rfl, rfl, rfl, rfl, rfl, rfl, rfl, rfl, rfl, rfl, rfl, rfl, rfl, rfl, rfl,
    rfl, rfl⟩

theorem test_decode_status_flags :
    decode [0b00011000] = .ok (.clc, []) ∧
    decode [0b11011000] = .ok (.cld, []) ∧
    decode [0b01011000] = .ok (.cli, []) ∧
    decode [0b10111000] = .ok (.clv, []) ∧
    decode [0b00111000] = .ok (.sec, []) ∧
    decode [0b11111000] = .ok (.sed, []) ∧
    decode [0b01111000] = .ok (.sei, []) :=
  ⟨rfl, rfl, rfl, rfl, rfl, rfl, rfl⟩

theorem test_decode_compare :
    decode [0b00100100, 0x20] = .ok (.bitZp 0x20, []) ∧
    decode [0b00101100, 0x34, 0x12] = .ok (.bitAbs 0x1234, []) ∧
    decode [0b11000001, 0x20] = .ok (.cmpIndX 0x20, []) ∧
    decode [0b11000101, 0x20] = .ok (.cmpZp 0x20, []) ∧
    decode [0b11001001, 0x20] = .ok (.cmpImm 0x20, []) ∧
    decode [0b11001101, 0x34, 0x12] = .ok (.cmpAbs 0x1234, []) ∧
    decode [0b11010001, 0x20] = .ok (.cmpIndY 0x20, []) ∧
    decode [0b11010101, 0x20] = .ok (.cmpZpX 0x20, []) ∧
    decode [0b11011001, 0x34, 0x12] = .ok (.cmpAbsY 0x1234, []) ∧
    decode [0b11011101, 0x34, 0x12] = .ok (.cmpAbsX 0x1234, []) ∧
    decode [0b11100000, 0x20] = .ok (.cpxImm 0x20, []) ∧
    decode [0b11100100, 0x20] = .ok (.cpxZp 0x20, []) ∧
    decode [0b11101100, 0x34, 0x12] = .ok (.cpxAbs 0x1234, []) ∧
    decode [0b11000000, 0x20] = .ok (.cpyImm 0x20, []) ∧
    decode [0b11000100, 0x20] = .ok (.cpyZp 0x20, []) ∧
    decode [0b11001100, 0x34, 0x12] = .ok (.cpyAbs 0x1234, []) :=
  ⟨rfl, rfl, rfl, rfl, rfl, rfl, rfl, rfl, rfl, rfl, rfl, rfl, rfl, rfl, rfl, rfl⟩

theorem test_decode_branch_jump_return :
    decode [0b10010000, 0x20] = .ok (.bcc 0x20, []) ∧
    decode [0b10110000, 0x20] = .ok (.bcs 0x20, []) ∧
    decode [0b11110000, 0x20] = .ok (.beq 0x20, []) ∧
    decode [0b00110000, 0x20] = .ok (.bmi 0x20, []) ∧
    decode [0b11010000, 0x20] = .ok (.bne 0x20, []) ∧
    decode [0b00010000, 0x20] = .ok (.bpl 0x20, []) ∧
    decode [0b01010000, 0x20] = .ok (.bvc 0x20, []) ∧
    decode [0b01110000, 0x20] = .ok (.bvs 0x20, []) ∧
    decode [0b01001100, 0x34, 0x12] = .ok (.jmpAbs 0x1234, []) ∧
    decode [0b01101100, 0x34, 0x12] = .ok (.jmpInd 0x1234, []) ∧
    decode [0b00100000, 0x34, 0x12] = .ok (.jsr 0x1234, []) ∧
    decode [0b01000000] = .ok (.rti, []) ∧
    decode [0b01100000] = .ok (.rts, []) :=
  ⟨rfl, rfl, rfl, rfl, rfl, rfl, rfl, rfl, rfl, rfl, rfl, rfl, rfl⟩

theorem test_decode_stack_machine_control :
    decode [0b01001000] = .ok (.pha, []) ∧
    decode [0b00001000] = .ok (.php, []) ∧
    decode [0b01101000] = .ok (.pla, []) ∧
    decode [0b00101000] = .ok (.plp, []) ∧
    decode [0b00000000] = .ok (.brk, []) ∧
    decode [0b11101010] = .ok (.nop, []) :=
  ⟨rfl, rfl, rfl, rfl, rfl, rfl⟩

/-- An unassigned byte (R79), an instruction cut short, and the word the host numbers little-endian. -/
theorem test_decode_refuses :
    decode [0x02] = .error (.unassigned 0x02) ∧ decode [0xFF, 0, 0] = .error (.unassigned 0xFF) ∧
    decode [0xAD, 0x34] = .error .truncated ∧ decode [] = .error .truncated := ⟨rfl, rfl, rfl, rfl⟩
theorem test_decodeTableWord : decodeTableWord 24 0x1234AD = some (.ldaAbs 0x1234) := rfl
theorem test_decodeTableWord_short : decodeTableWord 8 0xA9 = some (.ldaImm 0x00) := rfl
theorem test_grid_size : opcodeGrid.length = 151 := by simp only [opcodeGrid, List.length_append]; rfl

/-- The start state of 95_test_vectors.md with these cells in memory. -/
def start (mem : Memory) : State := { State.reset with sp := 0xFF, i := false, pc := 0x0200, mem := mem }

/-- What one step leaves, as far as `f` looks. -/
def after {α : Type} (s : State) (f : State → α) : Option α :=
  match step s with
  | .next t => some (f t)
  | .fault _ => none
  | .refused _ => none

/-- Does the step stop with this illegal opcode? -/
def stopsAt (s : State) (op : Byte) (a : Word) : Bool :=
  match step s with
  | .fault f => f == .illegalOpcode op a
  | _ => false

/- One step each, numbered as the vectors of 95_test_vectors.md section 2. -/
theorem test_v2_lda :
    after (start [(0x0200, 0xA9), (0x0201, 0x80)])
      (fun t => (t.a, t.n)) = some (0x80, true) := by rfl
theorem test_v5_lda :
    after { start [(0x0005, 0x99), (0x0105, 0x11), (0x0200, 0xB5), (0x0201, 0xF0)] with x := 0x15 }
      (fun t => (t.a, t.n, t.pc)) = some (0x99, true, 0x0202) := by rfl
theorem test_v9_lda :
    after { start [(0x0010, 0x3C), (0x0200, 0xBD), (0x0201, 0xF0), (0x0202, 0xFF)] with x := 0x20 }
      (fun t => (t.a, t.pc)) = some (0x3C, 0x0203) := by rfl
theorem test_v12_lda :
    after { start [(0x0000, 0x12), (0x00FF, 0x34), (0x0100, 0x99), (0x0200, 0xA1), (0x0201, 0xFE), (0x1234, 0x6D)] with x := 0x01 }
      (fun t => t.a) = some 0x6D := by rfl
theorem test_v15_lda :
    after { start [(0x0000, 0x40), (0x0100, 0x99), (0x0200, 0xB1), (0x0201, 0xFF), (0x4002, 0x08)] with y := 0x02 }
      (fun t => t.a) = some 0x08 := by rfl
theorem test_v16_lda :
    after { start [(0x0020, 0xFF), (0x0021, 0xFF), (0x00FE, 0x21), (0x0200, 0xB1), (0x0201, 0x20)] with y := 0xFF }
      (fun t => t.a) = some 0x21 := by rfl
theorem test_v17_ldx :
    after (start [(0x0200, 0xA2), (0x0201, 0xFF)])
      (fun t => (t.x, t.n)) = some (0xFF, true) := by rfl
theorem test_v18_ldx :
    after { start [(0x0200, 0xB6), (0x0201, 0xF0)] with y := 0x20 }
      (fun t => (t.x, t.z)) = some (0x00, true) := by rfl
theorem test_v20_ldy :
    after { start [(0x0200, 0xA0)] with y := 0x33 }
      (fun t => (t.y, t.z)) = some (0x00, true) := by rfl
theorem test_v22_ldy :
    after { start [(0x0200, 0xBC), (0x0202, 0x20), (0x20FF, 0x7E)] with x := 0xFF }
      (fun t => (t.y, t.pc)) = some (0x7E, 0x0203) := by rfl
theorem test_v24_sta :
    after { start [(0x0200, 0x95), (0x0201, 0x10)] with a := 0x80, x := 0xF8 }
      (fun t => (Memory.read t.mem 0x0008, t.n)) = some (0x80, false) := by rfl
theorem test_v29_sta :
    after { start [(0x0020, 0xFF), (0x0021, 0x12), (0x0200, 0x91), (0x0201, 0x20)] with a := 0x04, y := 0x01 }
      (fun t => (Memory.read t.mem 0x1300, t.pc)) = some (0x04, 0x0202) := by rfl
theorem test_v31_stx :
    after { start [(0x0200, 0x96), (0x0201, 0xF0)] with x := 0x5B, y := 0x11 }
      (fun t => Memory.read t.mem 0x0001) = some 0x5B := by rfl
theorem test_v34_sty :
    after { start [(0x0200, 0x94), (0x0201, 0x10)] with x := 0x05, y := 0x6B }
      (fun t => Memory.read t.mem 0x0015) = some 0x6B := by rfl
theorem test_v36_tax :
    after { start [(0x0200, 0xAA)] with x := 0x55 }
      (fun t => (t.x, t.z)) = some (0x00, true) := by rfl
theorem test_v38_tay :
    after { start [(0x0200, 0xA8)] with a := 0x7F, n := true, z := true }
      (fun t => (t.y, t.n)) = some (0x7F, false) := by rfl
theorem test_v39_txa :
    after { start [(0x0200, 0x8A)] with a := 0x01, x := 0xC0 }
      (fun t => (t.a, t.n)) = some (0xC0, true) := by rfl
theorem test_v40_tya :
    after { start [(0x0200, 0x98)] with a := 0x01 }
      (fun t => (t.a, t.z)) = some (0x00, true) := by rfl
theorem test_v41_tsx :
    after { start [(0x0200, 0xBA)] with sp := 0xFD }
      (fun t => (t.x, t.n)) = some (0xFD, true) := by rfl
theorem test_v43_txs :
    after { start [(0x0200, 0x9A)] with n := true }
      (fun t => (t.sp, t.z)) = some (0x00, false) := by rfl
theorem test_v46_adc :
    after { start [(0x0200, 0x69), (0x0201, 0x01)] with a := 0x7F }
      (fun t => (t.a, t.n, t.v)) = some (0x80, true, true) := by rfl
theorem test_v53_adc :
    after { start [(0x0021, 0x30), (0x0200, 0x71), (0x0201, 0x20), (0x3001, 0xFE)] with a := 0x01, y := 0x01 }
      (fun t => (t.a, t.n)) = some (0xFF, true) := by rfl
theorem test_v55_sbc :
    after { start [(0x0200, 0xE9), (0x0201, 0x01)] with a := 0x80, c := true }
      (fun t => (t.a, t.v)) = some (0x7F, true) := by rfl
theorem test_v64_adc :
    after { start [(0x0200, 0x69), (0x0201, 0x01)] with a := 0x99, d := true }
      (fun t => (t.a, t.c)) = some (0x00, true) := by rfl
theorem test_v68_sbc :
    after { start [(0x0200, 0xE9), (0x0201, 0x21)] with a := 0x12, d := true, c := true }
      (fun t => (t.a, t.c)) = some (0x91, false) := by rfl
theorem test_v72_inc :
    after { start [(0x0010, 0xFF), (0x0200, 0xE6), (0x0201, 0x10)] with v := true, c := true }
      (fun t => (Memory.read t.mem 0x0010, t.z, t.c)) = some (0x00, true, true) := by rfl
theorem test_v86_dex :
    after (start [(0x0200, 0xCA)])
      (fun t => (t.x, t.n)) = some (0xFF, true) := by rfl
theorem test_v88_dey :
    after { start [(0x0200, 0x88)] with y := 0x01 }
      (fun t => (t.y, t.z)) = some (0x00, true) := by rfl
theorem test_v91_asl :
    after { start [(0x0200, 0x0A)] with a := 0x40, c := true }
      (fun t => (t.a, t.c)) = some (0x80, false) := by rfl
theorem test_v93_asl :
    after (start [(0x0010, 0x81), (0x0200, 0x06), (0x0201, 0x10)])
      (fun t => (Memory.read t.mem 0x0010, t.c)) = some (0x02, true) := by rfl
theorem test_v95_lsr :
    after { start [(0x0200, 0x4A)] with a := 0x01 }
      (fun t => (t.a, t.c)) = some (0x00, true) := by rfl
theorem test_v97_lsr :
    after { start [(0x0012, 0xFF), (0x0200, 0x56), (0x0201, 0x10)] with x := 0x02 }
      (fun t => (Memory.read t.mem 0x0012, t.c)) = some (0x7F, true) := by rfl
theorem test_v99_rol :
    after { start [(0x0200, 0x2A)] with a := 0x80, c := true }
      (fun t => (t.a, t.c)) = some (0x01, true) := by rfl
theorem test_v103_rol :
    after { start [(0x0200, 0x3E), (0x0201, 0x34), (0x0202, 0x12), (0x1244, 0xAA)] with x := 0x10 }
      (fun t => (Memory.read t.mem 0x1244, t.c)) = some (0x54, true) := by rfl
theorem test_v106_ror :
    after { start [(0x0200, 0x6A)] with a := 0x01, c := true }
      (fun t => (t.a, t.c)) = some (0x80, true) := by rfl
theorem test_v107_ror :
    after { start [(0x0000, 0x02), (0x0200, 0x76), (0x0201, 0x10)] with x := 0xF0, c := true }
      (fun t => (Memory.read t.mem 0x0000, t.n)) = some (0x81, true) := by rfl
theorem test_v110_and :
    after { start [(0x0200, 0x29), (0x0201, 0xF0)] with a := 0xAA, v := true, c := true }
      (fun t => (t.a, t.n)) = some (0xA0, true) := by rfl
theorem test_v111_and :
    after { start [(0x0021, 0x40), (0x0200, 0x21), (0x0201, 0x20), (0x4000, 0x3C)] with a := 0xFF }
      (fun t => t.a) = some 0x3C := by rfl
theorem test_v114_eor :
    after { start [(0x0200, 0x49), (0x0201, 0xFF)] with a := 0x0F }
      (fun t => (t.a, t.n)) = some (0xF0, true) := by rfl
theorem test_v115_eor :
    after { start [(0x0010, 0x55), (0x0200, 0x45), (0x0201, 0x10)] with a := 0x55 }
      (fun t => (t.a, t.z)) = some (0x00, true) := by rfl
theorem test_v117_ora :
    after { start [(0x0200, 0x09), (0x0201, 0x80)] with a := 0x01 }
      (fun t => (t.a, t.n)) = some (0x81, true) := by rfl
theorem test_v119_ora :
    after (start [(0x0020, 0x34), (0x0021, 0x12), (0x0200, 0x11), (0x0201, 0x20)])
      (fun t => (t.a, t.z)) = some (0x00, true) := by rfl
theorem test_v120_clc :
    after { start [(0x0200, 0x18)] with n := true, v := true, d := true, i := true, z := true, c := true }
      (fun t => (t.c, t.n)) = some (false, true) := by rfl
theorem test_v121_cld :
    after { start [(0x0200, 0xD8)] with d := true, c := true }
      (fun t => (t.d, t.c)) = some (false, true) := by rfl
theorem test_v122_cli :
    after { start [(0x0200, 0x58)] with i := true }
      (fun t => (t.i, t.pc)) = some (false, 0x0201) := by rfl
theorem test_v123_clv :
    after { start [(0x0200, 0xB8)] with v := true, c := true }
      (fun t => (t.v, t.c)) = some (false, true) := by rfl
theorem test_v124_sec :
    after (start [(0x0200, 0x38)])
      (fun t => (t.c, t.pc)) = some (true, 0x0201) := by rfl
theorem test_v125_sed :
    after (start [(0x0200, 0xF8)])
      (fun t => (t.d, t.pc)) = some (true, 0x0201) := by rfl
theorem test_v126_sei :
    after (start [(0x0200, 0x78)])
      (fun t => (t.i, t.pc)) = some (true, 0x0201) := by rfl
theorem test_v129_bit :
    after (start [(0x0010, 0xC0), (0x0200, 0x24), (0x0201, 0x10)])
      (fun t => (t.n, t.v, t.z)) = some (true, true, true) := by rfl
theorem test_v131_bit :
    after { start [(0x0010, 0x80), (0x0200, 0x24), (0x0201, 0x10)] with a := 0x80, c := true }
      (fun t => (t.n, t.c)) = some (true, true) := by rfl
theorem test_v134_cmp :
    after { start [(0x0200, 0xC9), (0x0201, 0x01)] with a := 0x80 }
      (fun t => (t.c, t.n)) = some (true, false) := by rfl
theorem test_v136_cmp :
    after { start [(0x0200, 0xC9), (0x0201, 0x40)] with a := 0x40, v := true, d := true }
      (fun t => (t.c, t.z)) = some (true, true) := by rfl
theorem test_v140_cpx :
    after (start [(0x0010, 0x01), (0x0200, 0xE4), (0x0201, 0x10)])
      (fun t => (t.c, t.n)) = some (false, true) := by rfl
theorem test_v141_cpx :
    after { start [(0x0200, 0xEC), (0x0201, 0x34), (0x0202, 0x12)] with x := 0xFF }
      (fun t => (t.c, t.n)) = some (true, true) := by rfl
theorem test_v142_cpy :
    after { start [(0x0200, 0xC0), (0x0201, 0x03)] with y := 0x05 }
      (fun t => (t.c, t.z)) = some (true, false) := by rfl
theorem test_v144_cpy :
    after { start [(0x0200, 0xCC), (0x0201, 0x34), (0x0202, 0x12), (0x1234, 0x20)] with y := 0x20 }
      (fun t => (t.c, t.z)) = some (true, true) := by rfl
theorem test_v145_bcc :
    after (start [(0x0200, 0x90), (0x0201, 0x05)])
      (fun t => t.pc) = some 0x0207 := by rfl
theorem test_v146_bcc :
    after { start [(0x0200, 0x90), (0x0201, 0x05)] with c := true }
      (fun t => t.pc) = some 0x0202 := by rfl
theorem test_v147_bcs :
    after { start [(0x0200, 0xB0), (0x0201, 0xFE)] with c := true }
      (fun t => t.pc) = some 0x0200 := by rfl
theorem test_v148_beq :
    after { start [(0x0300, 0xF0), (0x0301, 0x80)] with pc := 0x0300, z := true }
      (fun t => t.pc) = some 0x0282 := by rfl
theorem test_v150_bmi :
    after { start [(0x0200, 0x30), (0x0201, 0x7F)] with n := true }
      (fun t => t.pc) = some 0x0281 := by rfl
theorem test_v151_bne :
    after { start [(0x0205, 0xD0), (0x0206, 0xFB)] with pc := 0x0205 }
      (fun t => t.pc) = some 0x0202 := by rfl
theorem test_v152_bne :
    after { start [(0x0205, 0xD0), (0x0206, 0xFB)] with pc := 0x0205, z := true }
      (fun t => t.pc) = some 0x0207 := by rfl
theorem test_v153_bpl :
    after { start [(0xFFFD, 0x10), (0xFFFE, 0x10)] with pc := 0xFFFD }
      (fun t => t.pc) = some 0x000F := by rfl
theorem test_v154_bpl :
    after { start [(0x0200, 0x10), (0x0201, 0x10)] with n := true }
      (fun t => t.pc) = some 0x0202 := by rfl
theorem test_v155_bvc :
    after (start [(0x0200, 0x50)])
      (fun t => t.pc) = some 0x0202 := by rfl
theorem test_v156_bvs :
    after { start [(0x0000, 0x70), (0x0001, 0xFC)] with pc := 0x0000, v := true }
      (fun t => t.pc) = some 0xFFFE := by rfl
theorem test_v157_bvs :
    after { start [(0x0000, 0x70), (0x0001, 0xFC)] with pc := 0x0000 }
      (fun t => t.pc) = some 0x0002 := by rfl
theorem test_v159_jmp :
    after (start [(0x0200, 0x4C), (0x0201, 0x34), (0x0202, 0x12)])
      (fun t => t.pc) = some 0x1234 := by rfl
theorem test_v161_jmp :
    after { start [(0x0200, 0x12), (0x02FF, 0x34), (0x0300, 0x56), (0x0400, 0x6C), (0x0401, 0xFF), (0x0402, 0x02)] with pc := 0x0400 }
      (fun t => t.pc) = some 0x1234 := by rfl
theorem test_v163_jsr :
    after (start [(0x0200, 0x20), (0x0202, 0x03)])
      (fun t => (t.pc, t.sp)) = some (0x0300, 0xFD) := by rfl
theorem test_v164_jsr :
    after { start [(0x80FE, 0x20), (0x80FF, 0x34), (0x8100, 0x12)] with pc := 0x80FE, sp := 0x00 }
      (fun t => (t.pc, Memory.read t.mem 0x0100)) = some (0x1234, 0x81) := by rfl
theorem test_v166_rts :
    after { start [(0x01FE, 0xFF), (0x01FF, 0xFF), (0x0200, 0x60)] with sp := 0xFD }
      (fun t => (t.pc, t.sp)) = some (0x0000, 0xFF) := by rfl
theorem test_v167_rts :
    after (start [(0x0100, 0x33), (0x0101, 0x44), (0x0200, 0x60)])
      (fun t => (t.pc, t.sp)) = some (0x4434, 0x01) := by rfl
theorem test_v168_rti :
    after { start [(0x01FD, 0xA1), (0x01FE, 0x05), (0x01FF, 0x02), (0x0200, 0x40)] with sp := 0xFC }
      (fun t => (t.pc, t.n, t.sp)) = some (0x0205, true, 0xFF) := by rfl
theorem test_v169_rti :
    after { start [(0x01FD, 0x30), (0x01FF, 0x90), (0x0200, 0x40)] with sp := 0xFC, n := true, v := true, d := true, i := true, z := true, c := true }
      (fun t => (t.pc, t.i, t.n)) = some (0x9000, false, false) := by rfl
theorem test_v170_pha :
    after { start [(0x0200, 0x48)] with a := 0x42 }
      (fun t => (Memory.read t.mem 0x01FF, t.sp)) = some (0x42, 0xFE) := by rfl
theorem test_v171_pha :
    after { start [(0x0200, 0x48)] with sp := 0x00 }
      (fun t => (t.sp, t.z)) = some (0xFF, false) := by rfl
theorem test_v172_php :
    after { start [(0x0200, 0x08)] with i := true, z := true, c := true }
      (fun t => (Memory.read t.mem 0x01FF, t.sp)) = some (0x37, 0xFE) := by rfl
theorem test_v174_php :
    after { start [(0x0200, 0x08)] with n := true, v := true, d := true, i := true, z := true, c := true }
      (fun t => Memory.read t.mem 0x01FF) = some 0xFF := by rfl
theorem test_v175_pla :
    after { start [(0x0200, 0x68)] with a := 0x55, sp := 0xFE }
      (fun t => (t.a, t.z)) = some (0x00, true) := by rfl
theorem test_v176_pla :
    after (start [(0x0100, 0x80), (0x0200, 0x68)])
      (fun t => (t.a, t.sp)) = some (0x80, 0x00) := by rfl
theorem test_v177_plp :
    after { start [(0x01FF, 0xFF), (0x0200, 0x28)] with sp := 0xFE }
      (fun t => (t.n, t.c, t.sp)) = some (true, true, 0xFF) := by rfl
theorem test_v179_plp :
    after { start [(0x01FF, 0xCB), (0x0200, 0x28)] with sp := 0xFE }
      (fun t => (t.i, t.v)) = some (false, true) := by rfl
theorem test_v180_brk :
    after (start [(0xFFFF, 0x90)])
      (fun t => (t.pc, Memory.read t.mem 0x01FD, Memory.read t.mem 0x01FE, Memory.read t.mem 0x01FF)) = some (0x9000, 0x30, 0x02, 0x02) := by rfl
theorem test_v182_brk :
    after { start [] with pc := 0xFFFF, sp := 0x01 }
      (fun t => (t.pc, Memory.read t.mem 0x0100, Memory.read t.mem 0x01FF)) = some (0x0000, 0x01, 0x30) := by rfl
theorem test_v183_nop :
    after { start [(0x0200, 0xEA)] with a := 0x12, n := true, c := true }
      (fun t => (t.pc, t.a)) = some (0x0201, 0x12) := by rfl
theorem test_v184_irq_taken :
    after { start [(0x0200, 0xEA), (0xFFFF, 0x90)] with c := true, irqLine := true }
      (fun t => (t.pc, Memory.read t.mem 0x01FD, Memory.read t.mem 0x01FF)) = some (0x9000, 0x21, 0x02) := by rfl
theorem test_v185_irq_masked :
    after { start [(0x0200, 0xEA), (0xFFFF, 0x90)] with i := true, irqLine := true }
      (fun t => t.pc) = some 0x0201 := by rfl
theorem test_v186_nmi_taken :
    after { start [(0x0200, 0xEA), (0xFFFB, 0xA0)] with i := true, z := true, nmiPending := true }
      (fun t => (t.pc, Memory.read t.mem 0x01FD, Memory.read t.mem 0x01FF)) = some (0xA000, 0x26, 0x02) := by rfl
theorem test_v187_nmi_before_irq :
    after { start [(0x0200, 0xEA), (0xFFFB, 0xA0), (0xFFFF, 0x90)] with irqLine := true, nmiPending := true }
      (fun t => (t.pc, t.i)) = some (0xA000, true) := by rfl
theorem test_v189_reset :
    after { start [(0x0200, 0xEA), (0xFFFD, 0x80)] with a := 0x11, resetRequest := true }
      (fun t => (t.pc, t.i)) = some (0x8000, true) := by rfl
theorem test_v190_unassigned : stopsAt (start [(0x0200, 0x02)]) 0x02 0x0200 = true := by rfl
theorem test_v191_unassigned : stopsAt (start [(0x0200, 0xFF)]) 0xFF 0x0200 = true := by rfl

/- A state and operands that meet the hypotheses of each obligation that has any, a clause at a time where it has
several. -/

/-- A platform with all four classes (R52): RAM, a device, an unmapped hole, ROM. -/
def mapped : State :=
  { start [] with cfg := { Config.default with
      memMap := [⟨0x8000, 0x100, .device⟩, ⟨0x9000, 0x1000, .unmapped⟩, ⟨0xE000, 0x2000, .rom⟩] } }

theorem witness_O2 : (Instr.ldaImm 0x01).opcode = (Instr.ldaImm 0xFF).opcode := rfl
theorem witness_O3 :
    let s := start [(0x0200, 0x02)]
    s.cfg.illegalOpcode = .fault ∧ s.atBoundary.pendingEvent = none ∧
    s.atBoundary.read .opcode s.pc ∈ unassignedOpcodes := by decide
theorem witness_O3_last :
    let s := start [(0x0200, 0xFF)]
    s.cfg.illegalOpcode = .fault ∧ s.atBoundary.pendingEvent = none ∧
    s.atBoundary.read .opcode s.pc ∈ unassignedOpcodes := by decide
theorem witness_O5 :
    let s := start [(0x0200, 0xA9), (0x0201, 0x80)]
    s.atBoundary.pendingEvent = none ∧ decode s.atBoundary.bytesAtPC = .ok (.ldaImm 0x80, [0x00]) := ⟨rfl, rfl⟩
theorem witness_O6 :
    let s := { start [] with pc := 0xFFFF }
    s.inv = true ∧ s.StoredAt s.pc ∧ s.StoredAt (s.pc + 1) ∧ s.StoredAt (s.pc + 2) ∧
    decodeTableWord 24 0x1234AD = some (.ldaAbs 0x1234) := ⟨rfl, .inl rfl, .inl rfl, .inl rfl, rfl⟩
theorem witness_O7 : (start []).inv = true ∧ (start []).cfg.irqLatency = .none := ⟨rfl, rfl⟩
theorem witness_O8 :
    (start []).env = [] ∧ ({ start [] with env := [⟨true, true, false⟩] } : State).env = [⟨true, true, false⟩] :=
  ⟨rfl, rfl⟩
theorem witness_O11 :
    mapped.inv = true ∧ mapped.StoredAt 0x0000 ∧ mapped.StoredAt 0xFFFF ∧ mapped.classOf 0x80FF = .device ∧
    mapped.classOf 0x8100 = .ram ∧ mapped.classOf 0x9000 = .unmapped ∧ mapped.classOf 0xE000 = .rom :=
  ⟨rfl, .inl rfl, .inr rfl, rfl, rfl, rfl, rfl⟩
theorem witness_O12_O34_to_O38_O40_O41_O45 : (start []).inv = true ∧ (start []).StackInRam ∧
    ({ start [] with sp := 0x00 } : State).inv = true ∧ ({ start [] with sp := 0x00 } : State).StackInRam :=
  ⟨rfl, fun _ => rfl, rfl, fun _ => rfl⟩
theorem witness_O13 :
    mapped.StoredAt (BitVec.ofNat 16 ((0xFF + 0x01) % 256)) ∧ mapped.StoredAt (BitVec.ofNat 16 ((0xFF + 1) % 256)) :=
  ⟨.inl rfl, .inl rfl⟩
theorem witness_O14 :
    assemble .lda (Src.mem (.indY 0xFF)).operand = some (.ldaIndY 0xFF) ∧
    assemble .ldx (Src.mem (.zpY 0xFF)).operand = some (.ldxZpY 0xFF) ∧
    assemble .ldy (Src.imm 0x80).operand = some (.ldyImm 0x80) := ⟨rfl, rfl, rfl⟩
theorem witness_O15 :
    mapped.inv = true ∧ assemble .sta (.memory (.absY 0xFFFF)) = some (.staAbsY 0xFFFF) ∧
    assemble .stx (.memory (.zpY 0xFF)) = some (.stxZpY 0xFF) ∧
    assemble .sty (.memory (.abs 0xE000)) = some (.styAbs 0xE000) := ⟨rfl, rfl, rfl, rfl⟩
theorem witness_O18_O21 : bcdValid 0x99 = true ∧ bcdValid 0x00 = true ∧ (99 : Nat) ≤ 99 := by decide
theorem witness_O19_O20_binary :
    (start []).d = false ∧ assemble .adc (Src.imm 0x80).operand = some (.adcImm 0x80) ∧
    assemble .sbc (Src.imm 0x80).operand = some (.sbcImm 0x80) := ⟨rfl, rfl, rfl⟩
theorem witness_O19_O20_decimal :
    let s := { start [] with d := true, a := 0x99 }
    s.d = true ∧ s.cfg.decimalModel = .validBcdOnly ∧ bcdValid s.a = true ∧
    bcdValid (srcValue (.imm 0x00) (s.pastInstr (Instr.adcImm 0x00).length)) = true := ⟨rfl, rfl, rfl, rfl⟩
theorem witness_O22 :
    let s := { start [] with d := true, cfg := { Config.default with decimalModel := .nmos } }
    s.d = true ∧ s.cfg.decimalModel = .nmos ∧ assemble .adc (Src.imm 0x0F).operand = some (.adcImm 0x0F) ∧
    assemble .sbc (Src.mem (.zp 0x10)).operand = some (.sbcZp 0x10) := ⟨rfl, rfl, rfl, rfl⟩
theorem witness_O23 :
    mapped.inv = true ∧ assemble .dec (.memory (.zpX 0xFF)) = some (.decZpX 0xFF) ∧
    assemble .inc (.memory (.abs 0xFFFF)) = some (.incAbs 0xFFFF) := ⟨rfl, rfl, rfl⟩
theorem witness_O25_O26 :
    mapped.inv = true ∧ assemble .asl (.memory (.zp 0xFF)) = some (.aslZp 0xFF) ∧
    assemble .lsr (.memory (.abs 0x0000)) = some (.lsrAbs 0x0000) ∧
    assemble .rol (.memory (.absX 0xFFFF)) = some (.rolAbsX 0xFFFF) ∧
    assemble .ror (.memory (.zpX 0x10)) = some (.rorZpX 0x10) := ⟨rfl, rfl, rfl, rfl, rfl⟩
theorem witness_O27 :
    assemble .and (Src.imm 0xFF).operand = some (.andImm 0xFF) ∧
    assemble .eor (Src.mem (.indX 0xFF)).operand = some (.eorIndX 0xFF) ∧
    assemble .ora (Src.mem (.absX 0xFFFF)).operand = some (.oraAbsX 0xFFFF) := ⟨rfl, rfl, rfl⟩
theorem witness_O28 : (start []).cfg.irqLatency = .none := rfl
/-- A state in which R229's delay is modelled and an IRQ is asserted with I = 1. -/
def delayedIrq : State :=
  { start [] with irqLine := true, i := true, cfg := { Config.default with irqLatency := .oneInstruction } }
theorem witness_O29 :
    let t := { opCli delayedIrq with polledI := some true }
    delayedIrq.cfg.irqLatency = .oneInstruction ∧ delayedIrq.StackInRam ∧ exec .cli delayedIrq = .next t ∧
    t.atBoundary.irqLine = true ∧ t.atBoundary.resetRequest = false ∧ t.atBoundary.nmiPending = false ∧
    Instr.cli.mnemonic ∈ [Mnemonic.cli, .sei, .plp] :=
  ⟨rfl, fun _ => rfl, rfl, rfl, rfl, rfl, by decide⟩
theorem witness_O29_other :
    let t := opNop delayedIrq
    exec .nop delayedIrq = .next t ∧ t.atBoundary.irqLine = true ∧ t.atBoundary.resetRequest = false ∧
    t.atBoundary.nmiPending = false ∧ Instr.nop.mnemonic ∉ [Mnemonic.cli, .sei, .plp] ∧
    Instr.rti.mnemonic ∉ [Mnemonic.cli, .sei, .plp] := ⟨rfl, rfl, rfl, rfl, by decide, by decide⟩
theorem witness_O30 : assemble .bit (.memory (.abs 0xFFFF)) = some (.bitAbs 0xFFFF) := rfl
theorem witness_O31 :
    assemble .cmp (Src.imm 0x00).operand = some (.cmpImm 0x00) ∧
    assemble .cpx (Src.imm 0xFF).operand = some (.cpxImm 0xFF) ∧
    assemble .cpy (Src.mem (.zp 0x00)).operand = some (.cpyZp 0x00) := ⟨rfl, rfl, rfl⟩
theorem witness_O33 :
    (start []).StoredAt 0x02FF ∧ (start []).StoredAt (BitVec.ofNat 16 (0x02FF / 256 * 256 + (0x02FF + 1) % 256)) ∧
    (0x02FE : Word).toNat % 256 ≠ 255 := ⟨.inl rfl, .inl rfl, by decide⟩
theorem witness_O42 :
    let s := { start [] with irqLine := true }
    let s' := { s with i := true, mem := [(0x0200, 0xEA)] }
    s.inv = true ∧ s.StackInRam ∧ s.cfg.irqLatency = .none ∧ s.atBoundary.irqLine = true ∧
    s.atBoundary.nmiPending = false ∧ s.atBoundary.resetRequest = false ∧ s.atBoundary.i = false ∧
    s'.inv = true ∧ s'.StackInRam ∧ s'.atBoundary.irqLine = true ∧ s'.atBoundary.nmiPending = false ∧
    s'.atBoundary.resetRequest = false ∧ s'.atBoundary.i = true ∧ step s' = .next (opNop s') :=
  ⟨rfl, fun _ => rfl, rfl, rfl, rfl, rfl, rfl, rfl, fun _ => rfl, rfl, rfl, rfl, rfl, rfl⟩
theorem witness_O43 :
    let s := { start [] with i := true, env := [⟨false, true, false⟩, ⟨false, true, false⟩] }
    let t := s.atBoundary.nmiEntry
    s.inv = true ∧ s.StackInRam ∧ s.atBoundary.nmiPending = true ∧ s.atBoundary.resetRequest = false ∧
    step s = .next t ∧ t.atBoundary.nmiPending = true ∧ t.atBoundary.resetRequest = false :=
  ⟨rfl, fun _ => rfl, rfl, rfl, rfl, rfl, rfl⟩
theorem witness_O44 :
    let s := { mapped with resetRequest := true }
    let r : ResetValues := ⟨0, 0, 0, 0xFD, false, false, false, false, false⟩
    let s1 := { s with cfg := { s.cfg with resetState := .given r } }
    let s2 := { s with cfg := { s.cfg with resetState := .keep } }
    s.atBoundary.resetRequest = true ∧ s.StoredAt s.cfg.vecReset ∧ s.StoredAt (s.cfg.vecReset + 1) ∧
    s1.atBoundary.resetRequest = true ∧ s1.cfg.resetState = .given r ∧
    s2.atBoundary.resetRequest = true ∧ s2.cfg.resetState = .keep :=
  ⟨rfl, .inr rfl, .inr rfl, rfl, rfl, rfl, rfl⟩
theorem witness_O47 : step (start [(0x0200, 0x02)]) = .fault (.illegalOpcode 0x02 0x0200) := rfl
theorem witness_O48_O51 :
    let s := { mapped with mem := [(0x0200, 0xEA)] }
    s.inv = true ∧ step s = .next (opNop s) ∧ s.classOf 0xE000 ≠ .ram := ⟨rfl, rfl, by decide⟩
theorem witness_O52_O53_O56 :
    exec .nop (start []) = .next (opNop (start [])) ∧ exec .aslAcc (start []) = .next (opAsl .acc (start [])) ∧
    Instr.aslAcc.mnemonic ∈ [Mnemonic.asl, .lsr, .rol, .ror] ∧ Instr.aslAcc.mode = .accumulator ∧
    Instr.nop.mode ≠ .relative ∧ Instr.nop.mnemonic ∉ [Mnemonic.jmp, .jsr, .rts, .rti, .brk] ∧
    Instr.nop.mnemonic ∉ [Mnemonic.adc, .sbc, .php, .brk] ∧ Instr.cld.mnemonic ∉ [Mnemonic.adc, .sbc, .php, .brk] :=
  ⟨rfl, rfl, by decide, rfl, by decide, by decide, by decide, by decide⟩
theorem witness_O54 :
    (start []).inv = true ∧ exec .pha (start []) = .next (opPha (start [])) ∧
    exec (.staZp 0xFF) (start []) = .next (opSta (.zp 0xFF) (start [])) ∧
    Instr.pha.mnemonic ∈ [Mnemonic.pha, .php, .jsr, .brk] ∧
    (Instr.staZp 0xFF).mode ∈ [Mode.zeroPage, .zeroPageX, .zeroPageY] := ⟨rfl, rfl, rfl, by decide, by decide⟩
theorem witness_O55 :
    (start []).inv = true ∧ assemble .sta (.memory (.abs 0x0203)) = some (.staAbs 0x0203) ∧
    assemble .stx (.memory (.zpY 0x10)) = some (.stxZpY 0x10) ∧ assemble .sty (.memory (.zp 0x10)) = some (.styZp 0x10) ∧
    assemble .inc (.memory (.absX 0xFFFF)) = some (.incAbsX 0xFFFF) ∧
    assemble .ror (.memory (.zpX 0xFF)) = some (.rorZpX 0xFF) ∧
    (start []).classOf (effAddr (.abs 0x0203) ((start []).pastInstr 3)) = .ram ∧
    (start []).classOf (BitVec.ofNat 16 (0x100 + ((start []).sp.toNat + 254) % 256)) = .ram ∧
    exec .nop (start []) = .next (opNop (start [])) ∧ (start []).StoredAt 0xFFFF :=
  ⟨rfl, rfl, rfl, rfl, rfl, rfl, rfl, rfl, rfl, .inl rfl⟩
theorem witness_O57 :
    mapped.StoredAt (effAddr (.abs 0x0000) mapped) ∧ mapped.StoredAt (effAddr (.abs 0xFFFF) mapped) :=
  ⟨.inl rfl, .inr rfl⟩

/-- A platform whose stack page has cells of all four classes: ROM, a device, a hole, RAM, and S at its lowest cell. -/
def mixedStack : State :=
  { start [] with sp := 0x00, cfg := { Config.default with
      memMap := [⟨0x100, 1, .rom⟩, ⟨0x1FF, 1, .device⟩, ⟨0x1FE, 1, .unmapped⟩] } }
theorem witness_O58 :
    mixedStack.inv = true ∧ mixedStack.classOf (BitVec.ofNat 16 (0x100 + (mixedStack.sp.toNat + 0) % 256)) = .rom ∧
    mixedStack.classOf (BitVec.ofNat 16 (0x100 + (mixedStack.sp.toNat + 255) % 256)) = .device ∧
    mixedStack.classOf (BitVec.ofNat 16 (0x100 + (mixedStack.sp.toNat + 254) % 256)) = .unmapped ∧
    mixedStack.classOf (BitVec.ofNat 16 (0x100 + (mixedStack.sp.toNat + 1) % 256)) = .ram :=
  ⟨rfl, rfl, rfl, rfl, rfl⟩
theorem witness_O58_events :
    ({ mixedStack with irqLine := true } : State).atBoundary.pendingEvent = some .irq ∧
    ({ mixedStack with nmiPending := true, i := true } : State).atBoundary.pendingEvent = some .nmi := ⟨rfl, rfl⟩
theorem witness_O59 :
    mixedStack.StoredAt (BitVec.ofNat 16 (0x100 + (mixedStack.sp.toNat + 1) % 256)) ∧
    mixedStack.StoredAt (BitVec.ofNat 16 (0x100 + (mixedStack.sp.toNat + 2) % 256)) ∧
    mixedStack.StoredAt (BitVec.ofNat 16 (0x100 + (mixedStack.sp.toNat + 3) % 256)) := ⟨.inl rfl, .inl rfl, .inl rfl⟩
theorem witness_O60 :
    let s := { start [(0x0200, 0x02)] with cfg := { Config.default with illegalOpcode := .unconstrained } }
    s.inv = true ∧ s.cfg.illegalOpcode = .unconstrained ∧ s.atBoundary.pendingEvent = none ∧
    s.atBoundary.read .opcode s.pc ∈ unassignedOpcodes ∧ step s = .next s.anyEffect :=
  ⟨rfl, rfl, rfl, by decide, rfl⟩

end Sys2Proof.Tests
end

section
/-! Proofs of the family 00_scope.md: the parameters of R4, `ILLEGAL_OPCODE` (O60) and `DECIMAL_MODEL` (O22). -/

namespace Sys2Proof.Machine

variable {s : State}

/- Unassigned opcode bytes: what the fetch and the step make of one. -/

/-- The opcode map has no row for a byte that R79 lists. -/
theorem lookupOpcode_eq_none_of_mem_unassigned {op : Byte} (h : op ∈ unassignedOpcodes) : lookupOpcode op = none := by
  have hall : ∀ op ∈ unassignedOpcodes, (lookupOpcode op).isNone = true := by decide
  exact Option.isNone_iff_eq_none.1 (hall op h)

theorem State.fetchInstr_eq_error {op : Byte} (hop : s.read .opcode s.pc = op) (h : op ∈ unassignedOpcodes) :
    s.fetchInstr = .error op := by
  simp only [State.fetchInstr, hop, lookupOpcode_eq_none_of_mem_unassigned h]

/-- With no event ready an unassigned byte at PC leaves the step to `ILLEGAL_OPCODE` (R79, R223). -/
theorem step_eq_unassigned (he : s.atBoundary.pendingEvent = none)
    (hop : s.atBoundary.read .opcode s.pc ∈ unassignedOpcodes) :
    step s = s.atBoundary.unassigned (s.atBoundary.read .opcode s.pc) := by
  have hf : s.atBoundary.fetchInstr = .error (s.atBoundary.read .opcode s.pc) :=
    State.fetchInstr_eq_error (by rw [State.atBoundary_pc]) hop
  simp only [step, he, hf]

/- The invariant and the memory map at a boundary and over an unknown effect. -/

theorem State.atBoundary_classOf (s : State) (a : Word) : s.atBoundary.classOf a = s.classOf a := by
  simp only [State.classOf, State.atBoundary_cfg]

theorem State.atBoundary_inv (s : State) : s.atBoundary.inv = s.inv := by
  simp only [State.inv, State.atBoundary_mem, State.atBoundary_cfg, State.atBoundary_polledI]

theorem State.anyEffect_polledI (s : State) : s.anyEffect.polledI = none := by
  rw [State.anyEffect_eq]

/-- An unknown effect keeps the invariant: its stores keep memory canonical, and a delayed I is spent. -/
theorem State.anyEffect_inv (h : s.inv = true) : s.anyEffect.inv = true := by
  obtain ⟨hwf, -⟩ := s.inv_iff.1 h
  exact (State.inv_iff _).2 ⟨(State.anyEffect_mem hwf).1, .inr s.anyEffect_polledI⟩

/- Decimal arithmetic under `DECIMAL_MODEL` = `nmos`. -/

theorem adcResult_nmos (hd : s.d = true) (hm : s.cfg.decimalModel = .nmos) (m : Byte) :
    adcResult s m = adcNmos s.a m s.c := by
  simp only [adcResult, hd, hm, if_true]

theorem sbcResult_nmos (hd : s.d = true) (hm : s.cfg.decimalModel = .nmos) (m : Byte) :
    sbcResult s m = sbcNmos s.a m s.c := by
  simp only [sbcResult, hd, hm, if_true]

/-- ADC writes the result computed in the state past the instruction (R62, R120). -/
theorem opAdc_eq (o : Src) (s : State) :
    opAdc o s = (s.pastInstr (srcLength o)).setAlu
      (adcResult (s.pastInstr (srcLength o)) (srcValue o (s.pastInstr (srcLength o)))) := by
  rw [State.pastInstr_eq_advance, opAdc]

/-- SBC writes the result computed in the state past the instruction (R62, R121). -/
theorem opSbc_eq (o : Src) (s : State) :
    opSbc o s = (s.pastInstr (srcLength o)).setAlu
      (sbcResult (s.pastInstr (srcLength o)) (srcValue o (s.pastInstr (srcLength o)))) := by
  rw [State.pastInstr_eq_advance, opSbc]

end Sys2Proof.Machine

namespace Sys2Proof.Proofs

open Sys2Proof.Machine

/-- Settles O60: the step is the unknown effect at the boundary state, which `State.anyEffect_eq` and
`State.anyEffect_mem` bound. -/
theorem unconstrainedIllegalOpcodeBoundsTheUnknown : Obligations.UnconstrainedIllegalOpcodeBoundsTheUnknown := by
  intro s hinv hcfg u hevent hop
  have huinv : u.inv = true := by rw [State.atBoundary_inv, hinv]
  have hstep : step s = .next u.anyEffect := by
    rw [step_eq_unassigned hevent hop, State.unassigned_eq, State.atBoundary_cfg, hcfg, if_neg (by decide)]
  have hmem : ∀ a : Word, s.classOf a ≠ .ram → Memory.read u.anyEffect.mem a.toNat = Memory.read s.mem a.toNat := by
    intro a ha
    rw [(State.anyEffect_mem (u.inv_iff.1 huinv).1).2 a (by rwa [State.atBoundary_classOf]), State.atBoundary_mem]
  refine ⟨u.anyEffect, hstep, State.anyEffect_inv huinv, ?_, hmem⟩
  rw [← s.atBoundary_draws]
  exact u.anyEffect_eq

/-- Settles O22: every form of ADC and SBC is one shared operation, whose result with D = 1 is that of `DECIMAL_MODEL`. -/
theorem nmosDecimalModelCompletes : Obligations.NmosDecimalModelCompletes := by
  intro o i s hd hm u r q
  constructor
  · intro h
    obtain ⟨hexec, hlen⟩ := exec_adc (s := s) h
    have hres : adcResult u (srcValue o u) = r := adcResult_nmos (s := u) hd hm _
    rw [hexec, opAdc_eq, ← hlen, hres, State.setAlu]
  · intro h
    obtain ⟨hexec, hlen⟩ := exec_sbc (s := s) h
    have hres : sbcResult u (srcValue o u) = q := sbcResult_nmos (s := u) hd hm _
    rw [hexec, opSbc_eq, ← hlen, hres, State.setAlu]

end Sys2Proof.Proofs
end

section
/-! Proofs of the family 10_state.md: which parts of the state an instruction can write (O52, O53), what D reaches (O56),
the image of P (O10), SetNZ (O9), the environment's choices (O8), the reset state (O49, O50). -/

namespace Sys2Proof.Machine

variable {f : State → State} {m : Mnemonic} {mode : Mode}

/- Every instruction runs the shared operation of its mnemonic. -/

/-- `f` is the operation of mnemonic `m` on some operand in mode `mode`: one constructor for each shared operation of the
instruction families. -/
inductive Operation : Mnemonic → (State → State) → Mode → Prop
  | lda (o : Src) : Operation .lda (opLda o) o.operand.mode
  | ldx (o : Src) : Operation .ldx (opLdx o) o.operand.mode
  | ldy (o : Src) : Operation .ldy (opLdy o) o.operand.mode
  | sta (a : MemMode) : Operation .sta (opSta a) a.mode
  | stx (a : MemMode) : Operation .stx (opStx a) a.mode
  | sty (a : MemMode) : Operation .sty (opSty a) a.mode
  | tax : Operation .tax opTax .implied
  | tay : Operation .tay opTay .implied
  | txa : Operation .txa opTxa .implied
  | tya : Operation .tya opTya .implied
  | tsx : Operation .tsx opTsx .implied
  | txs : Operation .txs opTxs .implied
  | adc (o : Src) : Operation .adc (opAdc o) o.operand.mode
  | sbc (o : Src) : Operation .sbc (opSbc o) o.operand.mode
  | dec (a : MemMode) : Operation .dec (opDec a) a.mode
  | dex : Operation .dex opDex .implied
  | dey : Operation .dey opDey .implied
  | inc (a : MemMode) : Operation .inc (opInc a) a.mode
  | inx : Operation .inx opInx .implied
  | iny : Operation .iny opIny .implied
  | asl (p : Place) : Operation .asl (opAsl p) p.operand.mode
  | lsr (p : Place) : Operation .lsr (opLsr p) p.operand.mode
  | rol (p : Place) : Operation .rol (opRol p) p.operand.mode
  | ror (p : Place) : Operation .ror (opRor p) p.operand.mode
  | and (o : Src) : Operation .and (opAnd o) o.operand.mode
  | eor (o : Src) : Operation .eor (opEor o) o.operand.mode
  | ora (o : Src) : Operation .ora (opOra o) o.operand.mode
  | clc : Operation .clc opClc .implied
  | cld : Operation .cld opCld .implied
  | cli : Operation .cli opCli .implied
  | clv : Operation .clv opClv .implied
  | sec : Operation .sec opSec .implied
  | sed : Operation .sed opSed .implied
  | sei : Operation .sei opSei .implied
  | bit (a : MemMode) : Operation .bit (opBit a) a.mode
  | cmp (o : Src) : Operation .cmp (opCmp o) o.operand.mode
  | cpx (o : Src) : Operation .cpx (opCpx o) o.operand.mode
  | cpy (o : Src) : Operation .cpy (opCpy o) o.operand.mode
  | bcc (b : Byte) : Operation .bcc (opBcc b) .relative
  | bcs (b : Byte) : Operation .bcs (opBcs b) .relative
  | beq (b : Byte) : Operation .beq (opBeq b) .relative
  | bmi (b : Byte) : Operation .bmi (opBmi b) .relative
  | bne (b : Byte) : Operation .bne (opBne b) .relative
  | bpl (b : Byte) : Operation .bpl (opBpl b) .relative
  | bvc (b : Byte) : Operation .bvc (opBvc b) .relative
  | bvs (b : Byte) : Operation .bvs (opBvs b) .relative
  | jmpAbs (w : Word) : Operation .jmp (opJmpAbs w) .absolute
  | jmpInd (w : Word) : Operation .jmp (opJmpInd w) .absoluteIndirect
  | jsr (w : Word) : Operation .jsr (opJsr w) .absolute
  | rti : Operation .rti opRti .implied
  | rts : Operation .rts opRts .implied
  | pha : Operation .pha opPha .implied
  | php : Operation .php opPhp .implied
  | pla : Operation .pla opPla .implied
  | plp : Operation .plp opPlp .implied
  | brk : Operation .brk opBrk .implied
  | nop : Operation .nop opNop .implied

/-- Every instruction runs the shared operation of its mnemonic and mode, in every state. -/
theorem exec_operation (i : Instr) : ∃ f, Operation i.mnemonic f i.mode ∧ ∀ s, exec i s = .next (f s) := by
  cases i <;> refine ⟨_, ?_, fun _ => rfl⟩ <;> constructor

theorem operation_of_exec {i : Instr} {s t : State} (h : exec i s = .next t) :
    ∃ f, Operation i.mnemonic f i.mode ∧ f s = t := by
  obtain ⟨f, hop, hexec⟩ := exec_operation i
  exact ⟨f, hop, Host.Outcome.next.inj ((hexec s).symm.trans h)⟩

/- What each operation writes: R26 read by mnemonic. -/

/-- The parts of the state that instructions write (R10 to R22, R28); Z and N are one part, for they have the same
writers. -/
inductive Part where
  | a | x | y | sp | pc | c | nz | i | d | v | mem

/-- What a shift in mode `mode` writes: its place, A or memory, and C, Z and N (R57, R64). -/
def writtenByShift (mode : Mode) : List Part := if mode = .accumulator then [.a, .c, .nz] else [.mem, .c, .nz]

/-- What an instruction of mnemonic `m` in mode `mode` can write beside moving PC past itself (R26, read by mnemonic). -/
def written (m : Mnemonic) (mode : Mode) : List Part :=
  match m with
  | .lda | .txa | .tya | .and | .eor | .ora => [.a, .nz]
  | .ldx | .tax | .tsx | .inx | .dex => [.x, .nz]
  | .ldy | .tay | .iny | .dey => [.y, .nz]
  | .txs => [.sp]
  | .sta | .stx | .sty => [.mem]
  | .inc | .dec => [.mem, .nz]
  | .asl | .lsr | .rol | .ror => writtenByShift mode
  | .adc | .sbc => [.a, .c, .nz, .v]
  | .cmp | .cpx | .cpy => [.c, .nz]
  | .bit => [.nz, .v]
  | .clc | .sec => [.c]
  | .cld | .sed => [.d]
  | .cli | .sei => [.i]
  | .clv => [.v]
  | .bcc | .bcs | .beq | .bmi | .bne | .bpl | .bvc | .bvs | .jmp => [.pc]
  | .jsr => [.sp, .mem, .pc]
  | .rts => [.sp, .pc]
  | .rti => [.sp, .c, .nz, .i, .d, .v, .pc]
  | .brk => [.sp, .mem, .i, .pc]
  | .pha | .php => [.sp, .mem]
  | .pla => [.sp, .a, .nz]
  | .plp => [.sp, .c, .nz, .i, .d, .v]
  | .nop => []

/-- Every part outside the list is the same in both states, and so are the inputs of R27, `nmi_pending` and the
configuration, which no instruction writes. -/
structure KeepsOutside (l : List Part) (s t : State) : Prop where
  a : .a ∉ l → t.a = s.a
  x : .x ∉ l → t.x = s.x
  y : .y ∉ l → t.y = s.y
  sp : .sp ∉ l → t.sp = s.sp
  pc : .pc ∉ l → t.pc = s.pc
  c : .c ∉ l → t.c = s.c
  nz : .nz ∉ l → t.z = s.z ∧ t.n = s.n
  i : .i ∉ l → t.i = s.i
  d : .d ∉ l → t.d = s.d
  v : .v ∉ l → t.v = s.v
  mem : .mem ∉ l → t.mem = s.mem
  inputs : t.nmiPending = s.nmiPending ∧ t.irqLine = s.irqLine ∧ t.resetRequest = s.resetRequest ∧ t.env = s.env ∧
    t.cfg = s.cfg

theorem memMode_mode_ne_accumulator (a : MemMode) : a.mode ≠ .accumulator := by
  cases a <;> nofun

theorem shiftPlace_keepsOutside (g : Byte → ShiftResult) (p : Place) (s : State) :
    KeepsOutside (writtenByShift p.operand.mode) s (shiftPlace g p s) := by
  cases p with
  | acc => constructor <;> simp [writtenByShift, Place.operand, Operand.mode, shiftPlace, placeStore]
  | mem m =>
    constructor <;>
      simp [writtenByShift, Place.operand, Operand.mode, memMode_mode_ne_accumulator, shiftPlace, placeStore]

/-- A branch writes PC alone (R188). -/
theorem branchIf_keepsOutside (cond : Bool) (b : Byte) (s : State) :
    KeepsOutside [.pc] (s.advance 2) (branchIf cond b s) := by
  cases cond <;> constructor <;> simp [branchIf]

/-- Measured from the state past the instruction, its operation writes what R26 lists for its mnemonic. -/
theorem Operation.keepsOutside_written (h : Operation m f mode) (s : State) :
    KeepsOutside (written m mode) (s.advance mode.length) (f s) := by
  cases h
  case lda | ldx | ldy => constructor <;> simp [written, opLda, opLdx, opLdy, srcLength]
  case sta | stx | sty => constructor <;> simp [written, opSta, opStx, opSty, memLength]
  case tax | tay | txa | tya | tsx | txs =>
    constructor <;> simp [written, opTax, opTay, opTxa, opTya, opTsx, opTxs, Mode.length]
  case adc | sbc => constructor <;> simp [written, opAdc, opSbc, srcLength]
  case dec | inc => constructor <;> simp [written, opDec, opInc, memLength]
  case dex | dey | inx | iny => constructor <;> simp [written, opDex, opDey, opInx, opIny, Mode.length]
  case asl p | lsr p | rol p | ror p => exact shiftPlace_keepsOutside _ p _
  case and | eor | ora => constructor <;> simp [written, opAnd, opEor, opOra, srcLength]
  case clc | cld | cli | clv | sec | sed | sei =>
    constructor <;> simp [written, opClc, opCld, opCli, opClv, opSec, opSed, opSei, Mode.length]
  case bit => constructor <;> simp [written, opBit, memLength]
  case cmp | cpx | cpy => constructor <;> simp [written, opCmp, opCpx, opCpy, srcLength]
  case bcc b | bcs b | beq b | bmi b | bne b | bpl b | bvc b | bvs b => exact branchIf_keepsOutside _ b s
  case jmpAbs | jmpInd | jsr | rti | rts =>
    constructor <;> simp [written, opJmpAbs, opJmpInd, opJsr, opRti, opRts, State.trapReturn_eq, Mode.length]
  case pha | php | pla | plp => constructor <;> simp [written, opPha, opPhp, opPla, opPlp, Mode.length]
  case brk | nop => constructor <;> simp [written, opBrk, opNop, Mode.length]

/- The same table read by part: R26's own "written by" column. -/

/-- The mnemonics whose instructions can write a part (R26; R17 for Z and N, R54 for memory, R13 for PC). Which of A and
memory a shift writes is for its mode to say (`written_of_shift`). -/
def writers : Part → List Mnemonic
  | .a => [.lda, .txa, .tya, .pla, .adc, .sbc, .and, .eor, .ora] ++ [.asl, .lsr, .rol, .ror]
  | .x => [.ldx, .tax, .tsx, .inx, .dex]
  | .y => [.ldy, .tay, .iny, .dey]
  | .sp => [.txs, .pha, .php, .pla, .plp, .jsr, .rts, .rti, .brk]
  | .pc => [.bcc, .bcs, .beq, .bmi, .bne, .bpl, .bvc, .bvs] ++ [.jmp, .jsr, .rts, .rti, .brk]
  | .c => [.adc, .sbc, .asl, .lsr, .rol, .ror, .cmp, .cpx, .cpy, .clc, .sec, .plp, .rti]
  | .nz => [.lda, .ldx, .ldy, .tax, .tay, .txa, .tya, .tsx, .pla, .inc, .inx, .iny, .dec, .dex, .dey, .asl, .lsr, .rol,
      .ror, .and, .eor, .ora, .adc, .sbc, .cmp, .cpx, .cpy, .bit, .plp, .rti]
  | .i => [.sei, .cli, .plp, .rti, .brk]
  | .d => [.sed, .cld, .plp, .rti]
  | .v => [.adc, .sbc, .bit, .clv, .plp, .rti]
  | .mem => [.sta, .stx, .sty, .inc, .dec, .asl, .lsr, .rol, .ror, .pha, .php, .jsr, .brk]

theorem written_of_shift (h : m ∈ [Mnemonic.asl, .lsr, .rol, .ror]) :
    written m mode = writtenByShift mode := by
  simp only [List.mem_cons, List.not_mem_nil, or_false] at h
  obtain rfl | rfl | rfl | rfl := h <;> rfl

/-- The two readings of R26 agree. -/
theorem mem_writers {p : Part} (h : p ∈ written m mode) : m ∈ writers p := by
  suffices hall : ∀ p ∈ written m mode, m ∈ writers p from hall p h
  cases m
  case asl | lsr | rol | ror => by_cases hacc : mode = .accumulator <;> simp [written, writtenByShift, hacc, writers]
  all_goals simp [written, writers]

/-- A shift on memory leaves A alone, and so does every instruction outside A's column. -/
theorem a_notMem_written (hm : m ∉ [Mnemonic.lda, .txa, .tya, .pla, .adc, .sbc, .and, .eor, .ora])
    (hshift : ¬ (m ∈ [Mnemonic.asl, .lsr, .rol, .ror] ∧ mode = .accumulator)) : .a ∉ written m mode := by
  intro h
  have hs := (List.mem_append.1 (mem_writers h)).resolve_left hm
  have hacc : mode ≠ .accumulator := fun hacc => hshift ⟨hs, hacc⟩
  simp [written_of_shift hs, writtenByShift, hacc] at h

/-- A shift on the accumulator stores nothing. -/
theorem mem_notMem_written (hs : m ∈ [Mnemonic.asl, .lsr, .rol, .ror]) (hacc : mode = .accumulator) :
    .mem ∉ written m mode := by
  simp [written_of_shift hs, writtenByShift, hacc]

theorem Operation.mode_of_branch (h : Operation m f mode)
    (hm : m ∈ [Mnemonic.bcc, .bcs, .beq, .bmi, .bne, .bpl, .bvc, .bvs]) : mode = .relative := by
  cases h
  case bcc | bcs | beq | bmi | bne | bpl | bvc | bvs => rfl
  all_goals simp at hm

/-- Only branches, jumps, calls, returns and BRK write PC beside moving it past the instruction (R13). -/
theorem Operation.pc_notMem_written (h : Operation m f mode) (hmode : mode ≠ .relative)
    (hm : m ∉ [Mnemonic.jmp, .jsr, .rts, .rti, .brk]) : .pc ∉ written m mode := by
  intro hpc
  have hbranch := (List.mem_append.1 (mem_writers hpc)).resolve_right hm
  exact hmode (h.mode_of_branch hbranch)

/- What D reaches: every operation but ADC, SBC and the pushes of P is the same function of a state with another D. -/

/-- The state with another D. -/
def State.withD (d : Bool) (s : State) : State := { s with d := d }

variable (s : State) (d : Bool)

theorem State.advance_withD (len : Nat) : (s.withD d).advance len = (s.advance len).withD d := rfl

theorem State.read_withD (k : Access) (a : Word) : (s.withD d).read k a = s.read k a :=
  State.read_congr rfl rfl rfl k a

theorem effAddr_withD (a : MemMode) : effAddr a (s.withD d) = effAddr a s := by
  cases a
  case indX | indY => simp only [effAddr, State.read16ZP, State.read_withD]; rfl
  all_goals rfl

theorem memOperand_withD (a : MemMode) : memOperand a (s.withD d) = memOperand a s := by
  rw [memOperand, effAddr_withD, State.read_withD, memOperand]

theorem srcValue_withD (o : Src) : srcValue o (s.withD d) = srcValue o s := by
  cases o with
  | imm => rfl
  | mem a => exact memOperand_withD s d a

theorem placeValue_withD (p : Place) : placeValue p (s.withD d) = placeValue p s := by
  cases p with
  | acc => rfl
  | mem a => exact memOperand_withD s d a

theorem State.write_withD (a : Word) (b : Byte) : (s.withD d).write a b = (s.write a b).withD d := by
  by_cases h : s.classOf a = .ram
  · rw [State.write_ram h, State.write_ram (s := s.withD d) h]; rfl
  · rw [State.write_not_ram h, State.write_not_ram (s := s.withD d) h]

theorem placeStore_withD (p : Place) (r : Byte) : placeStore p r (s.withD d) = (placeStore p r s).withD d := by
  cases p with
  | acc => rfl
  | mem a => rw [placeStore, effAddr_withD, State.write_withD, placeStore]

theorem shiftPlace_withD (g : Byte → ShiftResult) (p : Place) :
    shiftPlace g p (s.withD d) = (shiftPlace g p s).withD d := by
  simp only [shiftPlace, placeValue_withD, placeStore_withD]; rfl

theorem branchIf_withD (cond : Bool) (b : Byte) : branchIf cond b (s.withD d) = (branchIf cond b s).withD d := by
  cases cond <;> rfl

theorem State.push_withD (b : Byte) : (s.withD d).push b = (s.push b).withD d := by
  have haddr : (s.withD d).stackAddr = s.stackAddr := rfl
  simp only [State.push, haddr, State.write_withD]; rfl

theorem State.push16_withD (w : Word) : (s.withD d).push16 w = (s.push16 w).withD d := by
  simp only [State.push16, State.push_withD]

/-- Pulling P takes all of it from the stack: the D before is lost (R203). -/
theorem opPlp_withD : opPlp (s.withD d) = opPlp s := by
  simp only [opPlp, State.advance_withD, State.pull_fst, State.pull_snd, State.read_withD]; rfl

theorem opRti_withD : opRti (s.withD d) = opRti s := by
  simp only [opRti, State.advance_withD, State.trapReturn_eq, State.read_withD]; rfl

/-- CLD, SED, PLP and RTI overwrite D without reading it. -/
theorem Operation.withD_of_writes_d (h : Operation m f mode) (hw : m ∈ writers .d) :
    f (s.withD d) = f s := by
  cases h
  case cld | sed => rfl
  case plp => exact opPlp_withD s d
  case rti => exact opRti_withD s d
  all_goals simp [writers] at hw

/-- Every other operation but ADC, SBC, PHP and BRK carries D along and reads nothing of it. -/
theorem Operation.withD_comm (h : Operation m f mode)
    (hr : m ∉ [Mnemonic.adc, .sbc, .php, .brk]) (hw : m ∉ writers .d) :
    f (s.withD d) = (f s).withD d := by
  cases h
  case adc | sbc | php | brk => simp at hr
  case cld | sed | plp | rti => simp [writers] at hw
  case lda | ldx | ldy => simp only [opLda, opLdx, opLdy, State.advance_withD, srcValue_withD]; rfl
  case sta | stx | sty =>
    simp only [opSta, opStx, opSty, State.advance_withD, effAddr_withD, State.write_withD]; rfl
  case dec | inc =>
    simp only [opDec, opInc, State.advance_withD, memOperand_withD, effAddr_withD, State.write_withD]; rfl
  case asl p | lsr p | rol p | ror p => exact shiftPlace_withD (s.advance (placeLength p)) d _ p
  case and | eor | ora => simp only [opAnd, opEor, opOra, State.advance_withD, srcValue_withD]; rfl
  case bit => simp only [opBit, State.advance_withD, memOperand_withD]; rfl
  case cmp | cpx | cpy => simp only [opCmp, opCpx, opCpy, State.advance_withD, srcValue_withD]; rfl
  case bcc b | bcs b | beq b | bmi b | bne b | bpl b | bvc b | bvs b => exact branchIf_withD s d _ b
  case jmpInd => simp only [opJmpInd, State.advance_withD, State.read16Page, State.read_withD]; rfl
  case jsr => simp only [opJsr, State.advance_withD, State.push16_withD]; rfl
  case rts => simp only [opRts, State.advance_withD, State.pull16_fst, State.pull16_snd, State.read_withD]; rfl
  case pha => simp only [opPha, State.advance_withD, State.push_withD]; rfl
  case pla => simp only [opPla, State.advance_withD, State.pull_fst, State.pull_snd, State.read_withD]; rfl
  all_goals rfl

/- The image of P. -/

theorem bit_le_one (b : Bool) : bit b ≤ 1 := by cases b <;> decide

theorem State.pImage_toNat (b : Bool) : (s.pImage b).toNat =
    bit s.n * 128 + bit s.v * 64 + 32 + bit b * 16 + bit s.d * 8 + bit s.i * 4 + bit s.z * 2 + bit s.c := by
  have hn := bit_le_one s.n
  have hv := bit_le_one s.v
  have hb := bit_le_one b
  have hd := bit_le_one s.d
  have hi := bit_le_one s.i
  have hz := bit_le_one s.z
  have hc := bit_le_one s.c
  rw [State.pImage, BitVec.toNat_ofNat]
  omega

/-- Bit 5 of an image is 1 and bit 4 is its break bit: neither is a flag (R23). -/
theorem State.pImage_getLsbD_five_four (b : Bool) :
    (s.pImage b).getLsbD 5 = true ∧ (s.pImage b).getLsbD 4 = b := by
  unfold State.pImage
  cases s.n <;> cases s.v <;> cases b <;> cases s.d <;> cases s.i <;> cases s.z <;> cases s.c <;> exact ⟨rfl, rfl⟩

end Sys2Proof.Machine

namespace Sys2Proof.Proofs

open Sys2Proof.Machine

/-- Settles O52: the instruction's operation keeps every part outside its row of `written`, and a mnemonic outside
R26's column for a part has no such part in its row. -/
theorem eachRegisterHasOnlyItsWriters : Obligations.EachRegisterHasOnlyItsWriters := by
  intro i s t h
  obtain ⟨f, hop, rfl⟩ := operation_of_exec h
  have hkeep := hop.keepsOutside_written s
  exact ⟨fun hm hshift => hkeep.a (a_notMem_written hm hshift), fun hm => hkeep.x (mt mem_writers hm),
    fun hm => hkeep.y (mt mem_writers hm), fun hm => hkeep.sp (mt mem_writers hm),
    fun hm => hkeep.i (mt mem_writers hm), fun hm => hkeep.d (mt mem_writers hm),
    fun hm => hkeep.v (mt mem_writers hm), fun hm => hkeep.c (mt mem_writers hm),
    fun hm => hkeep.nz (mt mem_writers hm), fun hm => hkeep.mem (mt mem_writers hm),
    fun hs hacc => hkeep.mem (mem_notMem_written hs hacc), hkeep.inputs⟩

/-- Settles O53: PC is in no such operation's row of `written`, so it stays where `State.advance` put it. -/
theorem onlyControlTransferLeavesTheSequence : Obligations.OnlyControlTransferLeavesTheSequence := by
  intro i s t h hmode hm
  obtain ⟨f, hop, rfl⟩ := operation_of_exec h
  rw [(hop.keepsOutside_written s).pc (hop.pc_notMem_written hmode hm)]
  simp [Instr.length]

/-- Settles O56: the operation gives the same state where it overwrites D and carries another D along where it does
not. -/
theorem decimalFlagReachesOnlyAddAndSubtract : Obligations.DecimalFlagReachesOnlyAddAndSubtract := by
  intro i s d hr
  obtain ⟨f, hop, hexec⟩ := exec_operation i
  have hlist : i.mnemonic ∈ [Mnemonic.cld, .sed, .plp, .rti] ↔ i.mnemonic ∈ writers .d :=
    (List.Perm.swap _ _ _).mem_iff
  refine ⟨f s, f (s.withD d), hexec s, hexec _, ?_⟩
  rw [hlist]
  by_cases hw : i.mnemonic ∈ writers .d
  · rw [hop.withD_of_writes_d s d hw]
    exact ⟨rfl, fun _ => rfl, fun h => absurd hw h⟩
  · have hd : (f s).d = s.d := (hop.keepsOutside_written s).d (mt mem_writers hw)
    rw [hop.withD_comm s d hr hw]
    exact ⟨rfl, fun h => absurd h hw, fun _ => ⟨rfl, hd⟩⟩

/-- Settles O10: the flag bits of the image are those `State.setP_pImage` loads back. -/
theorem statusImageLayout : Obligations.StatusImageLayout := by
  refine ⟨fun s b => ?_, fun s v => rfl⟩
  have h := s.setP_pImage b s
  obtain ⟨h5, h4⟩ := s.pImage_getLsbD_five_four b
  exact ⟨s.pImage_toNat b, congrArg State.n h, congrArg State.v h, h5, h4, congrArg State.d h, congrArg State.i h,
    congrArg State.z h, congrArg State.c h⟩

/-- Settles O9: bit 7 of a byte is set when its number is 128 or more. -/
theorem setNZFollowsTheByte : Obligations.SetNZFollowsTheByte := by
  intro s v
  have hz : decide (v = 0) = decide (v.toNat = 0) := by
    simp [← BitVec.toNat_inj]
  have hn : v.getLsbD 7 = decide (128 ≤ v.toNat) :=
    (BitVec.msb_eq_getLsbD_last v).symm.trans (BitVec.msb_eq_decide v)
  rw [State.setNZ, hz, hn]

/-- Settles O8, by the two cases of `State.atBoundary`. -/
theorem environmentChoosesAtEachBoundary : Obligations.EnvironmentChoosesAtEachBoundary := by
  intro s e rest
  refine ⟨State.atBoundary_nil, fun h => ?_⟩
  simp [State.atBoundary, h]

/-- Settles O49: the reset memory is empty and no delayed I is held. -/
theorem resetMeetsTheInvariant : Obligations.ResetMeetsTheInvariant := by
  rw [Obligations.ResetMeetsTheInvariant, State.inv_iff]
  exact ⟨rfl, .inr rfl⟩

/-- Settles O50: every clause is a field of `State.reset` or of `Config.default`, whose empty map makes every address
RAM. -/
theorem resetStateHoldsTheStatedValues : Obligations.ResetStateHoldsTheStatedValues :=
  ⟨rfl, rfl, rfl, rfl, rfl, rfl, fun _ => rfl, rfl, rfl, rfl, rfl⟩

end Sys2Proof.Proofs
end

section
/-! Proofs of the family 20_memory.md: memory by the class of the address (O11), the stack page (O12, O58, O59), which
cells a step can change (O48, O51, O54) and what the next step reads there (O55). -/

namespace Sys2Proof.Machine

variable {s t u : State} {P : Word → Prop}

/- Stores: which cells an operation can change, and that memory stays canonical. -/

/-- A store changes memory alone. -/
theorem State.write_eq (s : State) (a : Word) (v : Byte) : s.write a v = { s with mem := (s.write a v).mem } := by
  rcases s.write_cases a v with e | e <;> rw [e]

/-- Getting from `s` to `t` stores to memory at most, inside the area `P`: the configuration is kept, memory stays
canonical, and a cell that holds another byte is a RAM cell of the area (R43). -/
structure StoresOnly (P : Word → Prop) (s t : State) : Prop where
  cfg : t.cfg = s.cfg
  wf : Memory.wf t.mem = true
  changed : ∀ a : Nat, Memory.read t.mem a ≠ Memory.read s.mem a → ∃ w : Word, w.toNat = a ∧ s.classOf w = .ram ∧ P w

theorem storesOnly_of_mem_eq (hwf : Memory.wf s.mem = true) (hcfg : t.cfg = s.cfg) (hmem : t.mem = s.mem) :
    StoresOnly P s t :=
  ⟨hcfg, by rwa [hmem], fun a hne => absurd (by rw [hmem]) hne⟩

theorem StoresOnly.trans (hst : StoresOnly P s t) (htu : StoresOnly P t u) : StoresOnly P s u := by
  refine ⟨htu.cfg.trans hst.cfg, htu.wf, fun a hne => ?_⟩
  by_cases htu_eq : Memory.read u.mem a = Memory.read t.mem a
  · exact hst.changed a (by rwa [← htu_eq])
  · obtain ⟨w, hw, hram, hP⟩ := htu.changed a htu_eq
    exact ⟨w, hw, by rwa [State.classOf, ← hst.cfg], hP⟩

/-- Only the memory and the configuration of the two states matter. -/
theorem StoresOnly.congr_left (h : StoresOnly P t u) (hcfg : t.cfg = s.cfg) (hmem : t.mem = s.mem) :
    StoresOnly P s u := by
  refine ⟨h.cfg.trans hcfg, h.wf, ?_⟩
  simpa only [State.classOf, hcfg, hmem] using h.changed

theorem StoresOnly.congr (h : StoresOnly P s t) (hcfg : u.cfg = t.cfg) (hmem : u.mem = t.mem) : StoresOnly P s u :=
  h.trans (storesOnly_of_mem_eq h.wf hcfg hmem)

theorem StoresOnly.setNZ (h : StoresOnly P s t) (v : Byte) : StoresOnly P s (t.setNZ v) :=
  h.congr rfl rfl

theorem StoresOnly.mono {Q : Word → Prop} (h : StoresOnly P s t) (hPQ : ∀ w, P w → Q w) : StoresOnly Q s t :=
  ⟨h.cfg, h.wf, fun a hne => (h.changed a hne).imp fun w ⟨hw, hram, hP⟩ => ⟨hw, hram, hPQ w hP⟩⟩

/-- A cell that is not RAM holds what it held. -/
theorem StoresOnly.read_not_ram (h : StoresOnly P s t) {a : Word} (ha : s.classOf a ≠ .ram) :
    Memory.read t.mem a.toNat = Memory.read s.mem a.toNat := by
  by_contra hne
  obtain ⟨w, hw, hram, -⟩ := h.changed _ hne
  exact ha (BitVec.eq_of_toNat_eq hw ▸ hram)

/-- A cell outside the area holds what it held. -/
theorem StoresOnly.read_outside (h : StoresOnly P s t) {a : Nat} (ha : ∀ w : Word, P w → w.toNat ≠ a) :
    Memory.read t.mem a = Memory.read s.mem a := by
  by_contra hne
  obtain ⟨w, hw, -, hP⟩ := h.changed a hne
  exact ha w hP hw

theorem State.write_storesOnly (hwf : Memory.wf s.mem = true) {a : Word} (ha : P a) (v : Byte) :
    StoresOnly P s (s.write a v) := by
  refine ⟨State.write_cfg s a v, State.write_wf hwf a v, fun a' hne => ?_⟩
  rw [State.write_read hwf] at hne
  by_cases hcell : a' = a.toNat ∧ s.classOf a = .ram
  · exact ⟨a, hcell.1.symm, hcell.2, ha⟩
  · rw [if_neg hcell] at hne
    exact absurd rfl hne

/-- The cells of page one, where the stack lies (R45). -/
def InPageOne (a : Word) : Prop := hi a = 0x01

/-- The cells of page zero (R44). -/
def InPageZero (a : Word) : Prop := hi a = 0x00

theorem inPageOne_iff {a : Word} : InPageOne a ↔ 0x100 ≤ a.toNat ∧ a.toNat ≤ 0x1FF := by
  rw [InPageOne, ← BitVec.toNat_inj, hi_toNat]
  change a.toNat / 256 = 1 ↔ _
  omega

theorem inPageZero_iff {a : Word} : InPageZero a ↔ a.toNat < 0x100 := by
  rw [InPageZero, ← BitVec.toNat_inj, hi_toNat]
  change a.toNat / 256 = 0 ↔ _
  omega

theorem State.push_storesOnly (hwf : Memory.wf s.mem = true) (v : Byte) : StoresOnly InPageOne s (s.push v) :=
  (State.write_storesOnly hwf (hi_word 0x01 s.sp) v).congr (by simp) (s.push_mem v)

theorem State.push16_storesOnly (hwf : Memory.wf s.mem = true) (w : Word) : StoresOnly InPageOne s (s.push16 w) :=
  (State.push_storesOnly hwf (hi w)).trans (State.push_storesOnly (State.push_wf hwf (hi w)) (lo w))

theorem State.trapEntry_storesOnly (hwf : Memory.wf s.mem = true) (ret vector : Word) (b : Bool) :
    StoresOnly InPageOne s (s.trapEntry ret b vector) :=
  ((State.push16_storesOnly hwf ret).trans (State.push_storesOnly (State.push16_wf hwf ret) _)).congr (by simp)
    (s.trapEntry_mem ret vector b)

/- Instructions: each operation stores where its mnemonic and its mode let it. -/

/-- Where an instruction of mnemonic `m` in mode `mode` may store: a push goes to page one (R46), a zero-page address
lies in page zero (R66 to R68). -/
def StoreArea (m : Mnemonic) (mode : Mode) (a : Word) : Prop :=
  (m ∈ [Mnemonic.pha, .php, .jsr, .brk] → InPageOne a) ∧
  (mode ∈ [Mode.zeroPage, .zeroPageX, .zeroPageY] → InPageZero a)

/-- The mnemonics that store to the effective address of their operand (R103 to R105, R57). -/
def addressStores : List Mnemonic := [.sta, .stx, .sty, .inc, .dec, .asl, .lsr, .rol, .ror]

/-- A zero-page mode forms an address in page zero, whatever the index register holds (R66 to R68). -/
theorem effAddr_inPageZero {a : MemMode} (h : a.mode ∈ [Mode.zeroPage, .zeroPageX, .zeroPageY]) (s : State) :
    InPageZero (effAddr a s) := by
  have hzext (b : Byte) : InPageZero (zext16 b) := inPageZero_iff.2 (by rw [zext16_toNat]; exact b.isLt)
  cases a
  case zp | zpX | zpY => exact hzext _
  all_goals simp [MemMode.mode] at h

theorem effAddr_storeArea {m : Mnemonic} (hm : m ∈ addressStores) (a : MemMode) (s : State) :
    StoreArea m a.mode (effAddr a s) := by
  refine ⟨fun hpush => ?_, fun hmode => effAddr_inPageZero hmode s⟩
  have hdisjoint : ∀ m ∈ addressStores, m ∉ [Mnemonic.pha, .php, .jsr, .brk] := by decide
  exact absurd hpush (hdisjoint m hm)

theorem shiftPlace_storesOnly (hwf : Memory.wf s.mem = true) {m : Mnemonic} (hm : m ∈ addressStores)
    (g : Byte → ShiftResult) (p : Place) : StoresOnly (StoreArea m p.operand.mode) s (shiftPlace g p s) := by
  cases p with
  | acc => exact storesOnly_of_mem_eq hwf rfl rfl
  | mem a => exact (State.write_storesOnly hwf (effAddr_storeArea hm a s) _).congr rfl rfl

/-- Every operation stores inside its area alone. -/
theorem Operation.storesOnly {f : State → State} {m : Mnemonic} {mode : Mode} (h : Operation m f mode)
    (hwf : Memory.wf s.mem = true) : StoresOnly (StoreArea m mode) s (f s) := by
  have hadv (len : Nat) : Memory.wf (s.advance len).mem = true := hwf
  have hpage {len : Nat} {v : State} (hmode : mode ∉ [Mode.zeroPage, .zeroPageX, .zeroPageY])
      (hv : StoresOnly InPageOne (s.advance len) v) : StoresOnly (StoreArea m mode) s v :=
    (hv.mono fun w hw => ⟨fun _ => hw, fun hz => absurd hz hmode⟩).congr_left rfl rfl
  have hkeeps (hmem : .mem ∉ written m mode) : StoresOnly (StoreArea m mode) s (f s) := by
    have hkeep := h.keepsOutside_written s
    obtain ⟨-, -, -, -, hcfg⟩ := hkeep.inputs
    exact storesOnly_of_mem_eq hwf hcfg (hkeep.mem hmem)
  cases h
  case sta a | stx a | sty a =>
    refine (State.write_storesOnly (hadv _) (effAddr_storeArea ?_ a _) _).congr_left rfl rfl
    decide
  case inc a | dec a =>
    refine ((State.write_storesOnly (hadv _) (effAddr_storeArea ?_ a _) _).setNZ _).congr_left rfl rfl
    decide
  case asl p | lsr p | rol p | ror p =>
    refine (shiftPlace_storesOnly (hadv _) ?_ _ p).congr_left rfl rfl
    decide
  case pha | php => exact hpage (by decide) (State.push_storesOnly (hadv 1) _)
  case jsr => exact hpage (by decide) ((State.push16_storesOnly (hadv 3) _).congr rfl rfl)
  case brk => exact hpage (by decide) (State.trapEntry_storesOnly (hadv 1) _ _ _)
  all_goals exact hkeeps (by simp [written])

theorem exec_storesOnly {i : Instr} (hwf : Memory.wf s.mem = true) (h : exec i s = .next t) :
    StoresOnly (StoreArea i.mnemonic i.mode) s t := by
  obtain ⟨f, hop, rfl⟩ := operation_of_exec h
  exact hop.storesOnly hwf

/- Steps: an event, an instruction, or an unassigned byte of unknown effect. -/

/-- All that a step which completes can be (R223). -/
theorem step_next_cases (h : step s = .next t) :
    (∃ e, t = State.takeEvent e s.atBoundary) ∨ (∃ i, exec i s.atBoundary = .next t) ∨ t = s.atBoundary.anyEffect := by
  simp only [step] at h
  split at h
  case h_1 e _ => exact .inl ⟨e, (Host.Outcome.next.inj h).symm⟩
  case h_2 =>
    split at h
    case h_1 i _ => exact .inr (.inl ⟨i, h⟩)
    case h_2 op _ =>
      rw [State.unassigned_eq] at h
      split at h
      · cases h
      · exact .inr (.inr (Host.Outcome.next.inj h).symm)

theorem State.takeEvent_storesOnly (hwf : Memory.wf s.mem = true) (e : Event) :
    StoresOnly InPageOne s (State.takeEvent e s) := by
  have hnmi : Memory.wf ({ s.beginEvent with nmiPending := false } : State).mem = true := hwf
  have hirq : Memory.wf s.beginEvent.mem = true := hwf
  cases e with
  | reset =>
    exact storesOnly_of_mem_eq hwf (by simp [State.takeEvent, State.resetEntry])
      (by simp [State.takeEvent, State.resetEntry])
  | nmi => exact (State.trapEntry_storesOnly hnmi _ _ _).congr_left rfl rfl
  | irq => exact (State.trapEntry_storesOnly hirq _ _ _).congr_left rfl rfl

theorem State.writeAll_storesOnly : ∀ (l : List (Word × Byte)) {s : State}, Memory.wf s.mem = true →
    StoresOnly (fun _ => True) s (s.writeAll l)
  | [], _, hwf => storesOnly_of_mem_eq hwf rfl rfl
  | (a, v) :: l, _, hwf =>
    (State.write_storesOnly hwf trivial v).trans (State.writeAll_storesOnly l (State.write_wf hwf a v))

theorem State.anyEffect_storesOnly (hwf : Memory.wf s.mem = true) : StoresOnly (fun _ => True) s s.anyEffect := by
  refine StoresOnly.congr_left (State.writeAll_storesOnly _ ?_) rfl rfl
  exact hwf

theorem step_storesOnly (hwf : Memory.wf s.mem = true) (h : step s = .next t) : StoresOnly (fun _ => True) s t := by
  have hb : StoresOnly (fun _ => True) s s.atBoundary := storesOnly_of_mem_eq hwf s.atBoundary_cfg s.atBoundary_mem
  rcases step_next_cases h with ⟨e, rfl⟩ | ⟨i, hi⟩ | rfl
  · exact hb.trans ((State.takeEvent_storesOnly hb.wf e).mono fun _ _ => trivial)
  · exact hb.trans ((exec_storesOnly hb.wf hi).mono fun _ _ => trivial)
  · exact hb.trans (State.anyEffect_storesOnly hb.wf)

/- The delayed I of R229 is held only where it is modelled (log 15). -/

theorem State.holdPolledI_delayed (old : Bool) (s : State) :
    s.cfg.irqLatency = .oneInstruction ∨ (s.holdPolledI old).polledI = none := by
  cases h : s.cfg.irqLatency <;> simp [h]

theorem shiftPlace_polledI (g : Byte → ShiftResult) (p : Place) (s : State) :
    (shiftPlace g p s).polledI = s.polledI := by
  cases p <;> simp [shiftPlace, placeStore]

theorem branchIf_polledI (cond : Bool) (b : Byte) (s : State) : (branchIf cond b s).polledI = none := by
  cases cond <;> rfl

/-- An operation spends a delayed I, and leaves one of its own only where R229's delay is modelled. -/
theorem Operation.polledI_delayed {f : State → State} {m : Mnemonic} {mode : Mode} (h : Operation m f mode)
    (s : State) : s.cfg.irqLatency = .oneInstruction ∨ (f s).polledI = none := by
  cases h
  case cli | sei | plp => exact State.holdPolledI_delayed _ _
  all_goals right
  case asl p | lsr p | rol p | ror p => exact shiftPlace_polledI _ p (s.advance (placeLength p))
  case bcc b | bcs b | beq b | bmi b | bne b | bpl b | bvc b | bvs b => exact branchIf_polledI _ b s
  case sta | stx | sty => simp [opSta, opStx, opSty]
  case inc | dec => simp [opInc, opDec]
  case pha | php => simp [opPha, opPhp]
  case jsr => simp [opJsr]
  case brk => simp [opBrk]
  all_goals rfl

theorem State.takeEvent_polledI (e : Event) (s : State) : (State.takeEvent e s).polledI = none := by
  cases e with
  | reset => simp [State.takeEvent, State.resetEntry]
  | nmi => simp [State.takeEvent, State.nmiEntry]
  | irq => simp [State.takeEvent, State.irqEntry]

theorem step_polledI_delayed (h : step s = .next t) : s.cfg.irqLatency = .oneInstruction ∨ t.polledI = none := by
  rcases step_next_cases h with ⟨e, rfl⟩ | ⟨i, hi⟩ | rfl
  · exact .inr (State.takeEvent_polledI e _)
  · obtain ⟨f, hop, rfl⟩ := operation_of_exec hi
    rw [← State.atBoundary_cfg]
    exact hop.polledI_delayed _
  · exact .inr (State.anyEffect_polledI _)

/- The stack page: the cells of the stack by their distance from S (R14, R45). -/

/-- The stack cell `k` above S, counted modulo 256 inside page one (R14, R45): cell 0 takes the next push, cell 255 the
one after it. -/
def State.stackCell (k : Nat) (s : State) : Word := word 0x01 (s.sp + BitVec.ofNat 8 k)

theorem ofNat_byte_add (b : Byte) (k : Nat) : BitVec.ofNat 8 (b.toNat + k) = b + BitVec.ofNat 8 k := by
  simp [BitVec.ofNat_add]

theorem byte_sub_one (b : Byte) : b - 1 = BitVec.ofNat 8 (b.toNat + 255) := by
  bv_omega

theorem State.stackCell_toNat (k : Nat) (s : State) : (s.stackCell k).toNat = 0x100 + (s.sp.toNat + k) % 256 := by
  simp [State.stackCell]

theorem State.ofNat_stackCell (k : Nat) (s : State) :
    BitVec.ofNat 16 (0x100 + (s.sp.toNat + k) % 256) = s.stackCell k := by
  rw [← State.stackCell_toNat, BitVec.ofNat_toNat, BitVec.setWidth_eq]

theorem State.stackAddr_eq (s : State) : s.stackAddr = s.stackCell 0 := by
  simp [State.stackAddr, State.stackCell]

theorem State.stackCell_congr (h : t.sp = s.sp) (k : Nat) : t.stackCell k = s.stackCell k := by
  rw [State.stackCell, h, State.stackCell]

theorem State.classOf_congr (h : t.cfg = s.cfg) (a : Word) : t.classOf a = s.classOf a := by
  rw [State.classOf, h, State.classOf]

/-- Seen from after a push, every cell is 255 further from S than before it. -/
theorem State.push_stackCell (v : Byte) (k : Nat) (s : State) : (s.push v).stackCell k = s.stackCell (k + 255) := by
  have hsp : s.sp - 1 + BitVec.ofNat 8 k = s.sp + BitVec.ofNat 8 (k + 255) := by
    rw [BitVec.ofNat_add]
    bv_omega
  rw [State.stackCell, State.push_sp, hsp, State.stackCell]

theorem State.push16_stackCell (w : Word) (k : Nat) (s : State) :
    (s.push16 w).stackCell k = s.stackCell (k + 254) := by
  have hcell : s.stackCell (k + 255 + 255) = s.stackCell (k + 254) := by
    apply BitVec.eq_of_toNat_eq
    simp only [State.stackCell_toNat]
    omega
  rw [State.push16, State.push_stackCell, State.push_stackCell, hcell]

/-- Two stack cells are one where they are a multiple of 256 apart. -/
theorem State.stackCell_toNat_inj {j k : Nat} (s : State) :
    (s.stackCell j).toNat = (s.stackCell k).toNat ↔ j % 256 = k % 256 := by
  simp only [State.stackCell_toNat]
  omega

/-- The conditions of two different cells exclude each other. -/
theorem State.not_stackCell_and {j k a : Nat} {p q : Prop} (hjk : j % 256 ≠ k % 256)
    (hj : a = (s.stackCell j).toNat ∧ p) : ¬ (a = (s.stackCell k).toNat ∧ q) := fun hk =>
  hjk (s.stackCell_toNat_inj.1 (hj.1.symm.trans hk.1))

/- Pushes on a stack of any class: the byte reaches the cell exactly where that is RAM (R46, R43). -/

theorem State.push_eq_sp_mem (v : Byte) (s : State) :
    s.push v = { s with sp := BitVec.ofNat 8 (s.sp.toNat + 255), mem := (s.push v).mem } := by
  rw [State.push_mem, State.push_eq, State.write_eq, byte_sub_one]

theorem State.push16_eq_sp_mem (w : Word) (s : State) :
    s.push16 w = { s with sp := BitVec.ofNat 8 (s.sp.toNat + 254), mem := (s.push16 w).mem } := by
  have hsp : BitVec.ofNat 8 ((BitVec.ofNat 8 (s.sp.toNat + 255)).toNat + 255) =
      BitVec.ofNat 8 (s.sp.toNat + 254) := by bv_omega
  rw [State.push16, State.push_eq_sp_mem (lo w), State.push_eq_sp_mem (hi w), hsp]

/-- Trap entry changes S, I, memory and PC alone (R224). -/
theorem State.trapEntry_eq_fields (ret vector : Word) (b : Bool) (s : State) :
    s.trapEntry ret b vector =
      { s with sp := BitVec.ofNat 8 (s.sp.toNat + 253), i := true, mem := (s.trapEntry ret b vector).mem,
               pc := (s.trapEntry ret b vector).readVector vector } := by
  have hsp : BitVec.ofNat 8 ((BitVec.ofNat 8 (s.sp.toNat + 254)).toNat + 255) =
      BitVec.ofNat 8 (s.sp.toNat + 253) := by bv_omega
  rw [State.trapEntry_mem, State.trapEntry_eq, State.push_eq_sp_mem (s.pImage b), State.push16_eq_sp_mem ret, hsp]
  rfl

theorem State.push_read (hwf : Memory.wf s.mem = true) (v : Byte) (a : Nat) :
    Memory.read (s.push v).mem a =
      if a = (s.stackCell 0).toNat ∧ s.classOf (s.stackCell 0) = .ram then v else Memory.read s.mem a := by
  rw [State.push_mem, State.write_read hwf, State.stackAddr_eq]

theorem State.push16_read (hwf : Memory.wf s.mem = true) (w : Word) (a : Nat) :
    Memory.read (s.push16 w).mem a =
      if a = (s.stackCell 0).toNat ∧ s.classOf (s.stackCell 0) = .ram then hi w
      else if a = (s.stackCell 255).toNat ∧ s.classOf (s.stackCell 255) = .ram then lo w
      else Memory.read s.mem a := by
  rw [State.push16, State.push_read (State.push_wf hwf _), State.push_stackCell, State.push_classOf,
    State.push_read hwf, ite_ite_comm]
  exact State.not_stackCell_and (by decide)

theorem State.trapEntry_read (hwf : Memory.wf s.mem = true) (ret vector : Word) (b : Bool) (a : Nat) :
    Memory.read (s.trapEntry ret b vector).mem a =
      if a = (s.stackCell 0).toNat ∧ s.classOf (s.stackCell 0) = .ram then hi ret
      else if a = (s.stackCell 255).toNat ∧ s.classOf (s.stackCell 255) = .ram then lo ret
      else if a = (s.stackCell 254).toNat ∧ s.classOf (s.stackCell 254) = .ram then s.pImage b
      else Memory.read s.mem a := by
  rw [State.trapEntry_mem, State.push_read (State.push16_wf hwf _), State.push16_stackCell,
    State.classOf_congr (s.push16_cfg ret), State.push16_read hwf]
  by_cases h : a = (s.stackCell 254).toNat ∧ s.classOf (s.stackCell 254) = .ram
  · rw [if_pos h, if_neg (State.not_stackCell_and (by decide) h), if_neg (State.not_stackCell_and (by decide) h),
      if_pos h]
  · rw [if_neg h, if_neg h]

/- The bytes pushed, read back at the cells that are RAM. -/

theorem State.push_read_stackCell (hwf : Memory.wf s.mem = true) (v : Byte) (h : s.classOf (s.stackCell 0) = .ram) :
    Memory.read (s.push v).mem (s.stackCell 0).toNat = v := by
  rw [State.push_read hwf, if_pos ⟨rfl, h⟩]

theorem State.push16_read_stackCells (hwf : Memory.wf s.mem = true) (w : Word) :
    (s.classOf (s.stackCell 0) = .ram → Memory.read (s.push16 w).mem (s.stackCell 0).toNat = hi w) ∧
    (s.classOf (s.stackCell 255) = .ram → Memory.read (s.push16 w).mem (s.stackCell 255).toNat = lo w) := by
  constructor <;> intro h <;> simp [State.push16_read hwf, State.stackCell_toNat_inj, h]

theorem State.trapEntry_read_stackCells (hwf : Memory.wf s.mem = true) (ret vector : Word) (b : Bool) :
    (s.classOf (s.stackCell 0) = .ram →
      Memory.read (s.trapEntry ret b vector).mem (s.stackCell 0).toNat = hi ret) ∧
    (s.classOf (s.stackCell 255) = .ram →
      Memory.read (s.trapEntry ret b vector).mem (s.stackCell 255).toNat = lo ret) ∧
    (s.classOf (s.stackCell 254) = .ram →
      Memory.read (s.trapEntry ret b vector).mem (s.stackCell 254).toNat = s.pImage b) := by
  refine ⟨?_, ?_, ?_⟩ <;> intro h <;> simp [State.trapEntry_read hwf, State.stackCell_toNat_inj, h]

/- What a boundary leaves of memory: the next step reads what was stored (R56, R223). -/

/-- The next step reads at a RAM or ROM address the byte memory then holds, whichever read of the step it is. -/
theorem State.atBoundary_read_of_stored (hcfg : t.cfg = s.cfg) {a : Word} (ha : s.StoredAt a) (k : Access) :
    t.atBoundary.read k a = Memory.read t.mem a.toNat := by
  rw [State.StoredAt, ← State.classOf_congr hcfg, ← State.atBoundary_classOf] at ha
  rw [State.read_stored ha, State.atBoundary_mem]

/- What the pushing instructions and the events run, over the state past the instruction (R62) or at the boundary. -/

theorem exec_pha (s : State) : exec .pha s = .next ((s.pastInstr 1).push s.a) := by
  rw [State.pastInstr_eq_advance]
  rfl

theorem exec_php (s : State) : exec .php s = .next ((s.pastInstr 1).push (s.pImage true)) := by
  rw [State.pastInstr_eq_advance]
  rfl

/-- JSR pushes the address of its last byte (R190). -/
theorem exec_jsr (w : Word) (s : State) :
    exec (.jsr w) s = .next { (s.pastInstr 3).push16 (BitVec.ofNat 16 (s.pc.toNat + 2)) with pc := w } := by
  have hret : BitVec.ofNat 16 (s.pc.toNat + 2) = (s.advance 3).pc - 1 := by
    rw [State.advance_pc]
    bv_omega
  rw [State.pastInstr_eq_advance, hret]
  rfl

/-- BRK takes the trap with the address of its opcode plus 2 (R204). -/
theorem exec_brk (s : State) :
    exec .brk s = .next ((s.pastInstr 1).trapEntry (BitVec.ofNat 16 (s.pc.toNat + 2)) true s.cfg.vecIrq) := by
  have hret : BitVec.ofNat 16 (s.pc.toNat + 2) = (s.advance 1).pc + 1 := by
    rw [State.advance_pc]
    bv_omega
  rw [State.pastInstr_eq_advance, hret]
  rfl

/- What the pulling instructions run: the bytes come from the cells above S, read in the state past the instruction. -/

theorem word_eq_ofNat (h l : Byte) : word h l = BitVec.ofNat 16 (h.toNat * 256 + l.toNat) := by
  rw [← word_toNat, BitVec.ofNat_toNat, BitVec.setWidth_eq]

theorem word_add_one (h l : Byte) : word h l + 1 = BitVec.ofNat 16 (h.toNat * 256 + l.toNat + 1) := by
  rw [word_eq_ofNat, BitVec.ofNat_add _ 1]
  rfl

theorem exec_pla (s : State) :
    exec .pla s = .next
      ({ s.pastInstr 1 with
          sp := BitVec.ofNat 8 (s.sp.toNat + 1),
          a := (s.pastInstr 1).read .pull1 (s.stackCell 1) }.setNZ ((s.pastInstr 1).read .pull1 (s.stackCell 1))) := by
  rw [State.pastInstr_eq_advance, ofNat_byte_add]
  rfl

theorem exec_plp (s : State) :
    exec .plp s = .next
      (({ s.pastInstr 1 with sp := BitVec.ofNat 8 (s.sp.toNat + 1) }.setP
        ((s.pastInstr 1).read .pull1 (s.stackCell 1))).holdPolledI s.i) := by
  rw [State.pastInstr_eq_advance, ofNat_byte_add]
  rfl

theorem exec_rts (s : State) :
    exec .rts s = .next
      { s.pastInstr 1 with
        sp := BitVec.ofNat 8 (s.sp.toNat + 2),
        pc := word ((s.pastInstr 1).read .pull2 (s.stackCell 2))
          ((s.pastInstr 1).read .pull1 (s.stackCell 1)) + 1 } := by
  have hsp : s.sp + 1 + 1 = s.sp + 2#8 := BitVec.add_assoc s.sp 1 1
  rw [State.pastInstr_eq_advance, ofNat_byte_add, State.stackCell, ← hsp]
  rfl

theorem exec_rti (s : State) :
    exec .rti s = .next
      { (s.pastInstr 1).setP ((s.pastInstr 1).read .pull1 (s.stackCell 1)) with
        sp := BitVec.ofNat 8 (s.sp.toNat + 3),
        pc := word ((s.pastInstr 1).read .pull3 (s.stackCell 3)) ((s.pastInstr 1).read .pull2 (s.stackCell 2)) } := by
  have hsp2 : s.sp + 1 + 1 = s.sp + 2#8 := BitVec.add_assoc s.sp 1 1
  have hsp3 : s.sp + 1 + 1 + 1 = s.sp + 3#8 := by rw [hsp2]; exact BitVec.add_assoc s.sp 2 1
  change Host.Outcome.next (s.advance 1).trapReturn = _
  rw [State.trapReturn_eq, State.pastInstr_eq_advance, ofNat_byte_add, State.advance_sp, hsp3, hsp2]
  rfl

theorem step_eq_takeEvent {e : Event} (h : s.atBoundary.pendingEvent = some e) :
    step s = .next (State.takeEvent e s.atBoundary) := by
  simp only [step, h]

/- The numbers the shifts make of a byte (R140 to R143). -/

theorem aslResult_r (x : Byte) : (aslResult x).r = BitVec.ofNat 8 (x.toNat * 2) := by
  apply BitVec.eq_of_toNat_eq
  simp [aslResult, Nat.shiftLeft_eq]

theorem lsrResult_r (x : Byte) : (lsrResult x).r = BitVec.ofNat 8 (x.toNat / 2) := by
  apply BitVec.eq_of_toNat_eq
  have hx := x.isLt
  simp only [lsrResult, BitVec.toNat_ushiftRight, Nat.shiftRight_eq_div_pow, BitVec.toNat_ofNat]
  omega

/-- Shifting left leaves bit 0 free for the carry. -/
theorem shiftLeft_one_and_bit_zero (x : Byte) : x <<< 1 &&& 0x01 = 0 := by
  ext i hi
  cases i <;> simp

/-- Shifting right leaves bit 7 free for the carry. -/
theorem ushiftRight_one_and_bit_seven (x : Byte) : x >>> 1 &&& 0x80 = 0 := by
  ext i hi
  interval_cases i <;> simp

theorem rolResult_r (c : Bool) (x : Byte) : (rolResult c x).r = BitVec.ofNat 8 (x.toNat * 2 + bit c) := by
  have hbits : x <<< 1 &&& (if c then 0x01 else 0x00) = 0#8 := by
    cases c with
    | false => simp
    | true => exact shiftLeft_one_and_bit_zero x
  have hc : (if c then 0x01 else 0x00 : Byte) = BitVec.ofNat 8 (bit c) := by cases c <;> rfl
  have hasl := aslResult_r x
  rw [rolResult, ← BitVec.add_eq_or_of_and_eq_zero _ _ hbits, hc, BitVec.ofNat_add, ← hasl, aslResult]

theorem rorResult_r (c : Bool) (x : Byte) : (rorResult c x).r = BitVec.ofNat 8 (x.toNat / 2 + 128 * bit c) := by
  have hbits : x >>> 1 &&& (if c then 0x80 else 0x00) = 0#8 := by
    cases c with
    | false => simp
    | true => exact ushiftRight_one_and_bit_seven x
  have hc : (if c then 0x80 else 0x00 : Byte) = BitVec.ofNat 8 (128 * bit c) := by cases c <;> rfl
  have hlsr := lsrResult_r x
  rw [rorResult, ← BitVec.add_eq_or_of_and_eq_zero _ _ hbits, hc, BitVec.ofNat_add, ← hlsr, lsrResult]

/-- What an instruction stores at its effective address in RAM is what every read of the next step finds there: `v` is
the byte, as a function of the state past the instruction. -/
theorem atBoundary_read_of_stores {i : Instr} {len : Nat} {m : MemMode} {v : State → Byte}
    (hwf : Memory.wf s.mem = true) (h : exec i s = .next t ∧ i.length = len)
    (hmem : t.mem = ((s.advance len).write (effAddr m (s.advance len)) (v (s.advance len))).mem) :
    ∃ t, exec i s = .next t ∧ (s.classOf (effAddr m (s.pastInstr i.length)) = .ram →
      ∀ k : Access, t.atBoundary.read k (effAddr m (s.pastInstr i.length)) = v (s.pastInstr i.length)) := by
  obtain ⟨hexec, rfl⟩ := h
  have hcfg := (exec_storesOnly hwf hexec).cfg
  have hwfu : Memory.wf (s.advance i.length).mem = true := hwf
  rw [State.pastInstr_eq_advance]
  refine ⟨t, hexec, fun hram k => ?_⟩
  rw [State.atBoundary_read_of_stored hcfg (.inl hram), hmem, State.write_read hwfu, if_pos ⟨rfl, hram⟩]

end Sys2Proof.Machine

namespace Sys2Proof.Proofs

open Sys2Proof.Machine

/-- Settles O48: a step only stores, which keeps memory canonical, and holds a delayed I only where it is modelled. -/
theorem stepKeepsTheInvariant : Obligations.StepKeepsTheInvariant := by
  intro s t hinv h
  obtain ⟨hwf, -⟩ := s.inv_iff.1 hinv
  have hstores := step_storesOnly hwf h
  rw [State.inv_iff, hstores.cfg]
  exact ⟨hstores.wf, step_polledI_delayed h⟩

/-- Settles O51: a step keeps the configuration and changes RAM cells alone. -/
theorem stepNeverChangesNonRam : Obligations.StepNeverChangesNonRam := by
  intro s t hinv h
  obtain ⟨hwf, -⟩ := s.inv_iff.1 hinv
  have hstores := step_storesOnly hwf h
  exact ⟨hstores.cfg, fun a ha => hstores.read_not_ram ha⟩

/-- Settles O11, by the laws of one read and one write in each class. -/
theorem memoryClassesReadAndWrite : Obligations.MemoryClassesReadAndWrite := by
  intro s a v k hinv
  obtain ⟨hwf, -⟩ := s.inv_iff.1 hinv
  refine ⟨fun h => State.read_stored h k, fun h => ⟨s.write_eq a v, State.write_wf hwf a v, fun a' => ?_⟩, fun h => ?_⟩
  · simp only [State.write_read hwf, h, and_true]
  · refine State.write_not_ram (fun hram => ?_) v
    simp [hram] at h

/-- Settles O54: an instruction's stores lie in the area of its mnemonic and mode, and an address in page `p` is
between `p * 256` and `p * 256 + 255`. -/
theorem pushesAndZeroPageStoresStayInTheirPage : Obligations.PushesAndZeroPageStoresStayInTheirPage := by
  intro i s t hinv h
  obtain ⟨hwf, -⟩ := s.inv_iff.1 hinv
  have hstores := exec_storesOnly hwf h
  refine ⟨fun hpush a ha => hstores.read_outside fun w hw => ?_, fun hmode a ha => hstores.read_outside fun w hw => ?_⟩
  · obtain ⟨hpage, -⟩ := hw
    have hbounds := inPageOne_iff.1 (hpage hpush)
    omega
  · obtain ⟨-, hpage⟩ := hw
    have hbound := inPageZero_iff.1 (hpage hmode)
    omega

/-- Settles O12: where the whole stack page is RAM every push is seen, and a pull after it reads the same cell. -/
theorem pushAndPullUseTheStackPage : Obligations.PushAndPullUseTheStackPage := by
  intro s v w k k' hinv hstack
  obtain ⟨hwf, -⟩ := s.inv_iff.1 hinv
  have hram (j : Nat) : s.classOf (s.stackCell j) = .ram := hstack _
  have hcell0 : (s.stackCell 0).toNat = 0x100 + s.sp.toNat := by
    rw [State.stackCell_toNat, Nat.add_zero, Nat.mod_eq_of_lt s.sp.isLt]
  have hpush (a : Nat) : Memory.read (s.push v).mem a = if a = 0x100 + s.sp.toNat then v else Memory.read s.mem a := by
    simp only [State.push_read hwf, hram, and_true, hcell0]
  have hsp : (s.push v).sp + 1 = s.sp := by
    rw [State.push_sp]
    bv_omega
  refine ⟨⟨s.push_eq_sp_mem v, hpush⟩, ?_, ?_, rfl, rfl, rfl, ?_, hsp⟩
  · rw [← State.stackCell_toNat]
    exact State.read_stored (.inl (hram 1)) k
  · rw [State.pull_snd, ofNat_byte_add]
    rfl
  · have hread : ((s.push v).pull k).1 = Memory.read (s.push v).mem (s.stackCell 0).toNat := by
      rw [State.pull_fst, hsp, ← State.stackAddr, State.stackAddr_eq]
      exact State.read_stored (.inl ((s.push_classOf _ v).trans (hram 0))) k
    rw [hread, hpush, if_pos hcell0]

/-- Settles O58: the pushes are the laws of `State.push`, `State.push16` and `State.trapEntry` over the stack cells. -/
theorem stackWritesByClassOfCell : Obligations.StackWritesByClassOfCell := by
  intro s hinv ram cell pushed1 pushed2 pushed3 sp entered
  obtain ⟨hwf, -⟩ := s.inv_iff.1 hinv
  have hcell (k : Nat) : cell k = (s.stackCell k).toNat := (s.stackCell_toNat k).symm
  have hram (k : Nat) : ram k = true ↔ s.classOf (s.stackCell k) = .ram := by
    simp only [ram, State.ofNat_stackCell, decide_eq_true_eq]
  have hpushed1 (u : State) (hsp : u.sp = s.sp) (hcfg : u.cfg = s.cfg) (hmem : u.mem = s.mem) (v : Byte) :
      u.push v = { u with sp := sp 255, mem := (u.push v).mem } ∧ pushed1 (u.push v) v := by
    have hfields := u.push_eq_sp_mem v
    rw [hsp] at hfields
    have hwfu : Memory.wf u.mem = true := hmem ▸ hwf
    refine ⟨hfields, fun a => ?_⟩
    simp only [hcell, hram, State.push_read hwfu, State.stackCell_congr hsp,
      State.classOf_congr hcfg, hmem]
  have hpushed2 (w : Word) (v : State) (hv : v.mem = ((s.pastInstr 3).push16 w).mem) : pushed2 v w := by
    intro a
    simp only [hcell, hram, hv]
    exact State.push16_read (s := s.pastInstr 3) hwf w a
  have hentered (u : State) (hsp : u.sp = s.sp) (hcfg : u.cfg = s.cfg) (hmem : u.mem = s.mem) (ret : Word) (b : Bool)
      (vector : Word) : entered u (u.trapEntry ret b vector) ret b vector := by
    have hfields := u.trapEntry_eq_fields ret vector b
    rw [hsp] at hfields
    have hwfu : Memory.wf u.mem = true := hmem ▸ hwf
    refine ⟨fun a => ?_, hfields⟩
    simp only [hcell, hram, State.trapEntry_read hwfu, State.stackCell_congr hsp,
      State.classOf_congr hcfg, hmem]
  refine ⟨fun v => hpushed1 s rfl rfl rfl v, ⟨_, exec_pha s, hpushed1 (s.pastInstr 1) rfl rfl rfl _⟩,
    ⟨_, exec_php s, hpushed1 (s.pastInstr 1) rfl rfl rfl _⟩, fun w => ⟨_, exec_jsr w s, ?_, hpushed2 _ _ rfl⟩,
    ⟨_, exec_brk s, hentered (s.pastInstr 1) rfl rfl rfl _ _ _⟩, fun hirq => ⟨_, step_eq_takeEvent hirq, ?_⟩,
    fun hnmi => ⟨_, step_eq_takeEvent hnmi, ?_⟩⟩
  · rw [State.push16_eq_sp_mem]
    rfl
  · rw [← s.atBoundary_cfg, ← s.atBoundary_pc]
    exact hentered s.atBoundary.beginEvent (by simp) (by simp) (by simp) _ _ _
  · rw [← s.atBoundary_cfg, ← s.atBoundary_pc]
    exact hentered { s.atBoundary.beginEvent with nmiPending := false } (by simp) (by simp) (by simp) _ _ _

/-- Settles O55: every store goes through `State.write` or a push, and the next step reads stored bytes. -/
theorem storeIsSeenByTheNextFetch : Obligations.StoreIsSeenByTheNextFetch := by
  intro s hinv seen store rmw stack ret
  obtain ⟨hwf, -⟩ := s.inv_iff.1 hinv
  have hread {i : Instr} {t : State} (h : exec i s = .next t) {a : Word} (ha : s.StoredAt a) (k : Access) :
      t.atBoundary.read k a = Memory.read t.mem a.toNat :=
    State.atBoundary_read_of_stored (exec_storesOnly hwf h).cfg ha k
  have hrmw {mn : Mnemonic} {op : MemMode → State → State} (f : Nat → Nat) (g : Byte → Byte)
      (hexec : ∀ {m i}, assemble mn (.memory m) = some i → exec i s = .next (op m s) ∧ i.length = memLength m)
      (hmem : ∀ m, (op m s).mem = ((s.advance (memLength m)).write (effAddr m (s.advance (memLength m)))
        (g (memOperand m (s.advance (memLength m))))).mem)
      (hg : ∀ x, g x = BitVec.ofNat 8 (f x.toNat)) : rmw mn f := by
    intro m i h
    simp only [← hg]
    exact atBoundary_read_of_stores (v := fun u => g (memOperand m u)) hwf (hexec h) (hmem m)
  have hstack {i : Instr} {t : State} (h : exec i s = .next t) (k : Nat) {v : Byte}
      (hv : s.classOf (s.stackCell k) = .ram → Memory.read t.mem (s.stackCell k).toNat = v) : seen t (stack k) v := by
    have hcell : stack k = s.stackCell k := s.ofNat_stackCell k
    intro hram k'
    rw [hcell] at hram ⊢
    rw [hread h (.inl hram), hv hram]
  obtain ⟨hjsr0, hjsr1⟩ := State.push16_read_stackCells (s := s.pastInstr 3) hwf ret
  obtain ⟨hbrk0, hbrk1, hbrk2⟩ := State.trapEntry_read_stackCells (s := s.pastInstr 1) hwf ret s.cfg.vecIrq true
  exact ⟨fun m i h => atBoundary_read_of_stores (v := State.a) hwf (exec_sta h) rfl,
    fun m i h => atBoundary_read_of_stores (v := State.x) hwf (exec_stx h) rfl,
    fun m i h => atBoundary_read_of_stores (v := State.y) hwf (exec_sty h) rfl,
    hrmw (fun m => m + 1) (· + 1) exec_inc (fun _ => rfl) fun x => (ofNat_byte_add x 1).symm,
    hrmw (fun m => m + 255) (· - 1) exec_dec (fun _ => rfl) byte_sub_one,
    hrmw (fun m => m * 2) (fun x => (aslResult x).r) exec_asl (fun _ => rfl) aslResult_r,
    hrmw (fun m => m / 2) (fun x => (lsrResult x).r) exec_lsr (fun _ => rfl) lsrResult_r,
    hrmw (fun m => m * 2 + bit s.c) (fun x => (rolResult s.c x).r) exec_rol (fun _ => rfl) (rolResult_r s.c),
    hrmw (fun m => m / 2 + 128 * bit s.c) (fun x => (rorResult s.c x).r) exec_ror (fun _ => rfl) (rorResult_r s.c),
    ⟨_, exec_pha s, hstack (exec_pha s) 0 (State.push_read_stackCell (s := s.pastInstr 1) hwf _)⟩,
    ⟨_, exec_php s, hstack (exec_php s) 0 (State.push_read_stackCell (s := s.pastInstr 1) hwf _)⟩,
    fun w => ⟨_, exec_jsr w s, hstack (exec_jsr w s) 0 hjsr0, hstack (exec_jsr w s) 255 hjsr1⟩,
    ⟨_, exec_brk s, hstack (exec_brk s) 0 hbrk0, hstack (exec_brk s) 255 hbrk1, hstack (exec_brk s) 254 hbrk2⟩,
    fun i t h k a ha => hread h ha k⟩

/-- Settles O59: each instruction pulls the cells above S one by one, and a RAM or ROM cell gives its stored byte. -/
theorem stackReadsByClassOfCell : Obligations.StackReadsByClassOfCell := by
  intro s u pulled sp
  have hpulled (k : Nat) (access : Access) : pulled k (u.read access (s.stackCell k)) := by
    intro hstored
    rw [s.ofNat_stackCell] at hstored
    rw [← s.stackCell_toNat]
    exact State.read_stored (s := u) hstored access
  refine ⟨⟨_, hpulled 1 .pull1, ?_⟩, ⟨_, _, hpulled 1 .pull1, exec_plp s, rfl⟩,
    ⟨_, _, hpulled 1 .pull1, hpulled 2 .pull2, ?_⟩,
    ⟨_, _, _, hpulled 1 .pull1, hpulled 2 .pull2, hpulled 3 .pull3, ?_⟩⟩
  · rw [exec_pla, setNZFollowsTheByte]
  · rw [exec_rts, word_add_one]
  · rw [exec_rti, word_eq_ofNat]
    rfl

end Sys2Proof.Proofs
end

section
/-! Proofs of the family 30_encoding.md: decode and encode agree (O1, O2, O4), unassigned opcode bytes (O3), what a step
fetches (O5, O6), effective addresses and operands (O13, O57). -/

namespace Sys2Proof.Laws

open Sys2Proof.Machine

/- The opcode map against the encoder, row by row. -/

/-- The mnemonic and mode that an entry of the opcode map stands for, read off its instruction with operand 0. -/
def selectedBy : OpcodeEntry → Mnemonic × Mode
  | .noOperand i => (i.mnemonic, i.mode)
  | .byteOperand f => ((f 0).mnemonic, (f 0).mode)
  | .wordOperand f => ((f 0).mnemonic, (f 0).mode)

/-- The entry `e` at opcode byte `op` agrees with the encoder: each of its instructions is encoded as `op` and the
operand bytes of its format (R60), and has the entry's mnemonic and mode whatever its operand (R61). -/
def EntryAgrees (op : Byte) (e : OpcodeEntry) : Prop :=
  match e with
  | .noOperand i => encode i = [op]
  | .byteOperand f => ∀ b, encode (f b) = [op, b] ∧ selectedBy e = ((f b).mnemonic, (f b).mode)
  | .wordOperand f => ∀ w, encode (f w) = [op, lo w, hi w] ∧ selectedBy e = ((f w).mnemonic, (f w).mode)

/-- R77's grid and the Encoding lines of R100 to R205 say the same of each of the 151 rows. -/
theorem opcodeGrid_agrees : ∀ row ∈ opcodeGrid, EntryAgrees row.1 row.2 := by
  simp only [opcodeGrid, gridRow0, gridRow1, gridRow2, gridRow3, gridRow4, gridRow5, gridRow6, gridRow7, gridRow8,
    gridRow9, gridRowA, gridRowB, gridRowC, gridRowD, gridRowE, gridRowF, List.forall_mem_append, List.forall_mem_cons,
    List.not_mem_nil, IsEmpty.forall_iff, implies_true, and_true, EntryAgrees, forall_and]
  and_intros <;> intros <;> rfl

theorem entryAgrees_of_lookupOpcode {op : Byte} {e : OpcodeEntry} (h : lookupOpcode op = some e) :
    EntryAgrees op e := by
  obtain ⟨row, hfind, rfl⟩ := Option.map_eq_some_iff.1 h
  have hop : row.1 = op := by simpa using List.find?_some hfind
  exact hop ▸ opcodeGrid_agrees row (List.mem_of_find?_eq_some hfind)

/- What the decoder accepts. -/

/-- The three formats in which `bytes` can hold an instruction and the bytes after it (F1, F2, F3 of R60). -/
inductive Decodes : List Byte → Instr → List Byte → Prop
  | noOperand {op : Byte} {i : Instr} {rest : List Byte} (h : lookupOpcode op = some (.noOperand i)) :
      Decodes (op :: rest) i rest
  | byteOperand {op b1 : Byte} {f : Byte → Instr} {rest : List Byte} (h : lookupOpcode op = some (.byteOperand f)) :
      Decodes (op :: b1 :: rest) (f b1) rest
  | wordOperand {op b1 b2 : Byte} {f : Word → Instr} {rest : List Byte}
      (h : lookupOpcode op = some (.wordOperand f)) : Decodes (op :: b1 :: b2 :: rest) (f (word b2 b1)) rest

variable {op : Byte} {i : Instr} {bytes rest : List Byte}

theorem decodes_of_decode (h : decode bytes = .ok (i, rest)) : Decodes bytes i rest := by
  cases bytes with
  | nil => cases h
  | cons op tail =>
    simp only [decode] at h
    split at h
    next => cases h
    next hrow => cases h; exact .noOperand hrow
    next hrow =>
      split at h
      next => cases h; exact .byteOperand hrow
      next => cases h
    next hrow =>
      split at h
      next => cases h; exact .wordOperand hrow
      next => cases h

/-- The opcode map has an entry for the opcode byte, which stands for the mnemonic and mode decoded. -/
theorem Decodes.lookupOpcode_selects {tail : List Byte} (h : Decodes (op :: tail) i rest) :
    (lookupOpcode op).map selectedBy = some (i.mnemonic, i.mode) := by
  cases h with
  | noOperand hrow => rw [hrow]; rfl
  | byteOperand hrow => rw [hrow, Option.map_some, (entryAgrees_of_lookupOpcode hrow _).2]
  | wordOperand hrow => rw [hrow, Option.map_some, (entryAgrees_of_lookupOpcode hrow _).2]

/-- The bytes of each format are the encoding, for the row says how its instructions are encoded. -/
theorem Decodes.eq_encode_append (h : Decodes bytes i rest) : bytes = encode i ++ rest := by
  cases h with
  | noOperand hrow =>
    have hencode : encode i = [_] := entryAgrees_of_lookupOpcode hrow
    rw [hencode, List.singleton_append]
  | @byteOperand _ b1 _ _ hrow =>
    have hencode : encode _ = [_, b1] := (entryAgrees_of_lookupOpcode hrow b1).1
    rw [hencode]
    rfl
  | @wordOperand _ b1 b2 _ _ hrow =>
    have hencode : encode _ = [_, lo (word b2 b1), hi (word b2 b1)] := (entryAgrees_of_lookupOpcode hrow _).1
    rw [hencode, lo_word, hi_word]
    rfl

open DecodeEncode in
/-- The decoder reads back every instruction that the encoder wrote (R60, R61). -/
theorem decode_encode_append (i : Instr) : Statement i := by
  cases i
  exacts [
    ldaIndX _, ldaZp _, ldaImm _, ldaAbs _, ldaIndY _, ldaZpX _, ldaAbsY _, ldaAbsX _, ldxImm _, ldxZp _, ldxAbs _,
    ldxZpY _, ldxAbsY _, ldyImm _, ldyZp _, ldyAbs _, ldyZpX _, ldyAbsX _, staIndX _, staZp _, staAbs _, staIndY _,
    staZpX _, staAbsY _, staAbsX _, stxZp _, stxAbs _, stxZpY _, styZp _, styAbs _, styZpX _, tax, tay, txa, tya, tsx,
    txs, adcIndX _, adcZp _, adcImm _, adcAbs _, adcIndY _, adcZpX _, adcAbsY _, adcAbsX _, sbcIndX _, sbcZp _,
    sbcImm _, sbcAbs _, sbcIndY _, sbcZpX _, sbcAbsY _, sbcAbsX _, decZp _, decAbs _, decZpX _, decAbsX _, dex, dey,
    incZp _, incAbs _, incZpX _, incAbsX _, inx, iny, aslZp _, aslAcc, aslAbs _, aslZpX _, aslAbsX _, lsrZp _, lsrAcc,
    lsrAbs _, lsrZpX _, lsrAbsX _, rolZp _, rolAcc, rolAbs _, rolZpX _, rolAbsX _, rorZp _, rorAcc, rorAbs _,
    rorZpX _, rorAbsX _, andIndX _, andZp _, andImm _, andAbs _, andIndY _, andZpX _, andAbsY _, andAbsX _, eorIndX _,
    eorZp _, eorImm _, eorAbs _, eorIndY _, eorZpX _, eorAbsY _, eorAbsX _, oraIndX _, oraZp _, oraImm _, oraAbs _,
    oraIndY _, oraZpX _, oraAbsY _, oraAbsX _, clc, cld, cli, clv, sec, sed, sei, bitZp _, bitAbs _, cmpIndX _,
    cmpZp _, cmpImm _, cmpAbs _, cmpIndY _, cmpZpX _, cmpAbsY _, cmpAbsX _, cpxImm _, cpxZp _, cpxAbs _, cpyImm _,
    cpyZp _, cpyAbs _, bcc _, bcs _, beq _, bmi _, bne _, bpl _, bvc _, bvs _, jmpAbs _, jmpInd _, jsr _, rti, rts,
    pha, php, pla, plp, brk, nop]

/- What the opcode byte alone says. -/

/-- The row at an instruction's opcode byte stands for its mnemonic and mode, whatever its operand (R61, R77). -/
theorem lookupOpcode_opcode (i : Instr) : (lookupOpcode i.opcode).map selectedBy = some (i.mnemonic, i.mode) :=
  (decodes_of_decode (decode_encode_append i [])).lookupOpcode_selects

theorem mnemonic_mode_eq_of_opcode_eq {j : Instr} (h : i.opcode = j.opcode) :
    i.mnemonic = j.mnemonic ∧ i.mode = j.mode := by
  have hrow := lookupOpcode_opcode i
  rw [h, lookupOpcode_opcode j] at hrow
  exact Prod.mk.inj (Option.some.inj hrow.symm)

theorem operand_bytes_length (o : Operand) : o.bytes.length + 1 = o.mode.length := by
  cases o with
  | memory m => cases m <;> rfl
  | _ => rfl

theorem mode_length_bounds (m : Mode) : 1 ≤ m.length ∧ m.length ≤ 3 := by
  cases m <;> decide

/- The 105 unassigned bytes and the 151 of the opcode map together are all 256. -/

theorem unassignedOpcodes_nodup : unassignedOpcodes.Nodup := by
  have hrising : unassignedOpcodes.IsChain (· < ·) := by simp [unassignedOpcodes]
  exact hrising.pairwise.imp BitVec.ne_of_lt

theorem assignedOpcodes_rising :
    (opcodeGrid.map Prod.fst).IsChain (· < ·) ∧ (opcodeGrid.map Prod.fst).length = 151 := by
  simp [opcodeGrid, gridRow0, gridRow1, gridRow2, gridRow3, gridRow4, gridRow5, gridRow6, gridRow7, gridRow8, gridRow9,
    gridRowA, gridRowB, gridRowC, gridRowD, gridRowE, gridRowF]

theorem lookupOpcode_isSome_iff : (lookupOpcode op).isSome = true ↔ op ∈ opcodeGrid.map Prod.fst := by
  simp [lookupOpcode, List.find?_isSome]

/-- 256 different bytes are all the bytes. -/
theorem mem_of_nodup_of_length {l : List Byte} (hnodup : l.Nodup) (hlen : l.length = 256) (b : Byte) : b ∈ l := by
  have hsub : l.map BitVec.toNat ⊆ List.range 256 := by
    intro n hn
    obtain ⟨b, -, rfl⟩ := List.mem_map.1 hn
    exact List.mem_range.2 b.isLt
  have hperm : (l.map BitVec.toNat).Perm (List.range 256) :=
    (List.subperm_of_subset (hnodup.map fun _ _ => BitVec.eq_of_toNat_eq) hsub).perm_of_length_le (by simp [hlen])
  obtain ⟨c, hc, hcb⟩ := List.mem_map.1 (hperm.mem_iff.2 (List.mem_range.2 b.isLt))
  exact BitVec.eq_of_toNat_eq hcb ▸ hc

theorem lookupOpcode_eq_none_iff : lookupOpcode op = none ↔ op ∈ unassignedOpcodes := by
  refine ⟨fun hnone => ?_, lookupOpcode_eq_none_of_mem_unassigned⟩
  have hdisjoint : unassignedOpcodes.Disjoint (opcodeGrid.map Prod.fst) := fun b hb hb' => by
    simp [← lookupOpcode_isSome_iff, lookupOpcode_eq_none_of_mem_unassigned hb] at hb'
  obtain ⟨hrising, hlen⟩ := assignedOpcodes_rising
  have hnodup : (opcodeGrid.map Prod.fst).Nodup := hrising.pairwise.imp BitVec.ne_of_lt
  have hall := mem_of_nodup_of_length (unassignedOpcodes_nodup.append hnodup hdisjoint)
    (by rw [List.length_append, hlen]; rfl) op
  refine (List.mem_append.1 hall).resolve_right fun hassigned => ?_
  simp [← lookupOpcode_isSome_iff, hnone] at hassigned

/-- Every row of the opcode map is the row of an instruction. -/
theorem exists_opcode_of_lookupOpcode {e : OpcodeEntry} (h : lookupOpcode op = some e) :
    ∃ i : Instr, i.opcode = op := by
  have hencode := entryAgrees_of_lookupOpcode h
  cases e with
  | noOperand i => exact ⟨i, (List.cons.inj hencode).1⟩
  | byteOperand f => exact ⟨f 0, (List.cons.inj (hencode 0).1).1⟩
  | wordOperand f => exact ⟨f 0, (List.cons.inj (hencode 0).1).1⟩

theorem mem_unassignedOpcodes_iff : op ∈ unassignedOpcodes ↔ ∀ i : Instr, i.opcode ≠ op := by
  rw [← lookupOpcode_eq_none_iff]
  constructor
  · rintro hnone i rfl
    have hrow := lookupOpcode_opcode i
    simp [hnone] at hrow
  · intro hne
    refine Option.eq_none_iff_forall_ne_some.2 fun e he => ?_
    obtain ⟨i, hi⟩ := exists_opcode_of_lookupOpcode he
    exact hne i hi

theorem exists_decode_of_decodeTableWord {nbits w : Nat} (h : decodeTableWord nbits w = some i) :
    ∃ rest, decode (tableBytes nbits w) = .ok (i, rest) := by
  unfold decodeTableWord at h
  split at h
  next hdecode => cases h; exact ⟨_, hdecode⟩
  next => cases h

end Sys2Proof.Laws

namespace Sys2Proof.Machine

variable {s : State} {i : Instr} {rest : List Byte}

/- What a step fetches. -/

/-- Where the three bytes at PC decode, the fetch gives the same instruction, whatever its length (R62). -/
theorem State.fetchInstr_eq_ok (h : decode s.bytesAtPC = .ok (i, rest)) : s.fetchInstr = .ok i := by
  cases Laws.decodes_of_decode h with
  | noOperand hrow => simp only [State.fetchInstr, hrow]
  | byteOperand hrow => simp only [State.fetchInstr, hrow]
  | wordOperand hrow => simp only [State.fetchInstr, hrow]

theorem step_eq_exec (he : s.atBoundary.pendingEvent = none) (h : decode s.atBoundary.bytesAtPC = .ok (i, rest)) :
    step s = exec i s.atBoundary := by
  simp only [step, he, State.fetchInstr_eq_ok h]

/-- Three bytes placed from `a` on are read back from `a`, `a + 1` and `a + 2`, over the wrap at $FFFF too. -/
theorem read_placeBytes_three {m : Memory} (hwf : Memory.wf m = true) (a : Word) (b0 b1 b2 : Byte) :
    Memory.read (placeBytes [b0, b1, b2] a m) a.toNat = b0 ∧
    Memory.read (placeBytes [b0, b1, b2] a m) (a + 1).toNat = b1 ∧
    Memory.read (placeBytes [b0, b1, b2] a m) (a + 2).toNat = b2 := by
  have hwf0 := Memory.wf_write (addr_lt a) b0 hwf
  have hwf1 := Memory.wf_write (addr_lt (a + 1)) b1 hwf0
  have ha : a + 1 + 1 = a + 2 := by bv_omega
  have h01 : a.toNat ≠ (a + 1).toNat := by bv_omega
  have h02 : a.toNat ≠ (a + 2).toNat := by bv_omega
  have h12 : (a + 1).toNat ≠ (a + 2).toNat := by bv_omega
  simp only [placeBytes, ha, Memory.read_write hwf1, Memory.read_write hwf0, Memory.read_write hwf, h01, h02, h12,
    if_true, if_false, and_self]

/-- Where the three cells at PC give their stored bytes, the fetch finds the three bytes placed there (log 3). -/
theorem State.bytesAtPC_placeAtPC (hwf : Memory.wf s.mem = true) (h0 : s.StoredAt s.pc) (h1 : s.StoredAt (s.pc + 1))
    (h2 : s.StoredAt (s.pc + 2)) (b0 b1 b2 : Byte) : (s.placeAtPC [b0, b1, b2]).bytesAtPC = [b0, b1, b2] := by
  obtain ⟨hb0, hb1, hb2⟩ := read_placeBytes_three hwf s.pc b0 b1 b2
  have hread {a : Word} (ha : s.StoredAt a) (k : Access) : (s.placeAtPC [b0, b1, b2]).read k a =
      Memory.read (placeBytes [b0, b1, b2] s.pc s.mem) a.toNat :=
    State.read_stored (s := s.placeAtPC [b0, b1, b2]) ha k
  have hpc : (s.placeAtPC [b0, b1, b2]).pc = s.pc := rfl
  rw [State.bytesAtPC, hpc, hread h0, hread h1, hread h2, hb0, hb1, hb2]

/- Effective addresses as numbers. -/

theorem zext16_ofNat (k : Nat) : zext16 (BitVec.ofNat 8 k) = BitVec.ofNat 16 (k % 256) := by
  apply BitVec.eq_of_toNat_eq
  simp only [zext16_toNat, BitVec.toNat_ofNat]
  omega

theorem add_zext16_toNat (w : Word) (b : Byte) : (w + zext16 b).toNat = (w.toNat + b.toNat) % 65536 := by
  rw [BitVec.toNat_add, zext16_toNat]

/-- The pointer at zero-page address `k` modulo 256, low byte first, its second byte inside the zero page too (R44). -/
theorem State.read16ZP_toNat {k : Nat} (hlow : s.StoredAt (BitVec.ofNat 16 (k % 256)))
    (hhigh : s.StoredAt (BitVec.ofNat 16 ((k + 1) % 256))) :
    (s.read16ZP (BitVec.ofNat 8 k)).toNat =
      (Memory.read s.mem ((k + 1) % 256)).toNat * 256 + (Memory.read s.mem (k % 256)).toNat := by
  have hnext : BitVec.ofNat 8 k + 1 = BitVec.ofNat 8 (k + 1) := (BitVec.ofNat_add k 1).symm
  have haddr (n : Nat) : (BitVec.ofNat 16 (n % 256)).toNat = n % 256 := by
    rw [← zext16_ofNat, zext16_toNat, BitVec.toNat_ofNat]
  rw [State.read16ZP, word_toNat, hnext, zext16_ofNat, zext16_ofNat, State.read_stored hlow, State.read_stored hhigh,
    haddr, haddr]

end Sys2Proof.Machine

namespace Sys2Proof.Proofs

open Sys2Proof.Machine Sys2Proof.Laws

/-- Settles O1: what the decoder accepts has one of R60's three formats, each of them an encoding; and every encoding
reads back. -/
theorem decodeAcceptsExactlyTheEncodings : Obligations.DecodeAcceptsExactlyTheEncodings := by
  intro bytes i rest
  refine ⟨fun h => (decodes_of_decode h).eq_encode_append, ?_⟩
  rintro rfl
  exact decode_encode_append i rest

/-- Settles O2: the opcode map has one row for an opcode byte, and a row stands for one mnemonic and mode. -/
theorem opcodeSelectsInstructionModeAndLength : Obligations.OpcodeSelectsInstructionModeAndLength := by
  intro i j h
  obtain ⟨hmnemonic, hmode⟩ := mnemonic_mode_eq_of_opcode_eq h
  obtain ⟨hmin, hmax⟩ := mode_length_bounds i.mode
  exact ⟨hmnemonic, hmode, congrArg Mode.length hmode, operand_bytes_length i.form.operand, hmin, hmax⟩

/-- Settles O3: the bytes that R79 lists are those the opcode map lacks, and the step leaves such a byte to
`ILLEGAL_OPCODE`. -/
theorem unassignedOpcodesRaiseIllegalOpcode : Obligations.UnassignedOpcodesRaiseIllegalOpcode := by
  refine ⟨⟨unassignedOpcodes_nodup, rfl⟩, fun op => mem_unassignedOpcodes_iff, fun s hfault he hop => ?_⟩
  rw [step_eq_unassigned he hop, State.unassigned_eq, State.atBoundary_cfg, if_pos hfault, State.atBoundary_pc]

/-- Settles O4: ten of the words are encodings, and the last begins with a byte that R79 lists. -/
theorem specWordsDecode : Obligations.SpecWordsDecode :=
  ⟨decode_encode_append (.ldaImm 0x80) [], decode_encode_append (.ldaAbs 0x1234) [], decode_encode_append .tya [],
    decode_encode_append .tsx [], decode_encode_append .rolAcc [], decode_encode_append .rorAcc [],
    decode_encode_append (.jmpInd 0x02FF) [], decode_encode_append (.bcc 0x05) [],
    decode_encode_append (.adcIndY 0x20) [], decode_encode_append .brk [], rfl⟩

/-- Settles O5: the fetch reads the bytes at PC as the decoder does. -/
theorem stepRunsTheDecodedInstruction : Obligations.StepRunsTheDecodedInstruction :=
  fun _ _ _ => step_eq_exec

/-- Settles O6: the placed bytes are the bytes at PC, and no event is ready there. -/
theorem placedWordRunsNext : Obligations.PlacedWordRunsNext := by
  intro s nbits w i hinv h0 h1 h2 hword
  obtain ⟨hwf, -⟩ := s.inv_iff.1 hinv
  obtain ⟨rest, hdecode⟩ := exists_decode_of_decodeTableWord hword
  have hboundary : (s.withFetchWord nbits w).atBoundary = s.withFetchWord nbits w := State.atBoundary_nil rfl
  have hevent : (s.withFetchWord nbits w).atBoundary.pendingEvent = none := by rw [hboundary]; rfl
  have hbytes : (s.withFetchWord nbits w).bytesAtPC = tableBytes nbits w :=
    State.bytesAtPC_placeAtPC hwf h0 h1 h2 _ _ _
  rw [step_eq_exec hevent (by rw [hboundary, hbytes, hdecode]), hboundary]

/-- Settles O13: the sums are those of bytes and words, and a pointer is read inside the zero page. -/
theorem effectiveAddressesWrapAsStated : Obligations.EffectiveAddressesWrapAsStated := by
  intro s b w zp stored
  have hsum : b + s.x = BitVec.ofNat 8 (b.toNat + s.x.toNat) := by
    rw [ofNat_byte_add, BitVec.ofNat_toNat, BitVec.setWidth_eq]
  refine ⟨zext16_toNat b, (zext16_toNat _).trans (BitVec.toNat_add b s.x),
    (zext16_toNat _).trans (BitVec.toNat_add b s.y), rfl, add_zext16_toNat w s.x, add_zext16_toNat w s.y,
    fun hlow hhigh => ?_, fun hlow hhigh => ?_⟩
  · rw [effAddr, hsum]
    exact State.read16ZP_toNat hlow hhigh
  · have hpointer := State.read16ZP_toNat hlow hhigh
    rw [BitVec.ofNat_toNat, BitVec.setWidth_eq] at hpointer
    rw [effAddr, add_zext16_toNat, hpointer]

/-- Settles O57: an operand is the constant, A, or one read at the effective address, which gives the byte stored in RAM
or ROM. -/
theorem operandIsTheConstantOrTheByteAtTheAddress : Obligations.OperandIsTheConstantOrTheByteAtTheAddress := by
  intro s b m
  refine ⟨rfl, rfl, rfl, rfl, rfl, fun hstored => ?_⟩
  have hread := State.read_stored hstored .data
  exact ⟨hread, hread, hread⟩

end Sys2Proof.Proofs
end

section
/-! Proofs of the family 40_data_transfer.md: what a load leaves in its register and in Z and N (O14), and which byte of
memory a store changes (O15). -/

namespace Sys2Proof.Machine

variable {s : State} {i : Instr} {len : Nat}

/-- An instruction that puts a byte in its place (`put`) and runs SetNZ on it: `v` is the byte, as a function of the state
past the instruction (R24, R62). -/
theorem exec_of_put_setNZ {v : State → Byte} {put : Byte → State → State}
    (h : exec i s = .next ((put (v (s.advance len)) (s.advance len)).setNZ (v (s.advance len))) ∧ i.length = len) :
    exec i s = .next { put (v (s.pastInstr i.length)) (s.pastInstr i.length) with
      z := decide ((v (s.pastInstr i.length)).toNat = 0), n := decide (128 ≤ (v (s.pastInstr i.length)).toNat) } := by
  obtain ⟨hexec, rfl⟩ := h
  rw [hexec, Proofs.setNZFollowsTheByte, State.pastInstr_eq_advance]

/-- An instruction that stores `v` at its effective address and does nothing else: the byte is there afterwards if the
address is RAM, and all else is as the state past the instruction has it (R43, R62). -/
theorem exec_of_write_effAddr {m : MemMode} {v : Byte} (hinv : s.inv = true)
    (h : exec i s = .next ((s.advance len).write (effAddr m (s.advance len)) v) ∧ i.length = len) :
    ∃ t, exec i s = .next t ∧ t = { s.pastInstr i.length with mem := t.mem } ∧
      ∀ a : Nat, Memory.read t.mem a =
        if a = (effAddr m (s.pastInstr i.length)).toNat ∧ s.classOf (effAddr m (s.pastInstr i.length)) = .ram then v
        else Memory.read s.mem a := by
  obtain ⟨hwf, -⟩ := s.inv_iff.1 hinv
  obtain ⟨hexec, rfl⟩ := h
  rw [State.pastInstr_eq_advance]
  exact ⟨_, hexec, State.write_eq _ _ v, State.write_read (s := s.advance i.length) hwf _ v⟩

end Sys2Proof.Machine

namespace Sys2Proof.Proofs

open Sys2Proof.Machine

/-- Settles O14: the three loads put the operand into their own register and run SetNZ on it; each encoding is its opcode
and its operand bytes. -/
theorem loadsReadTheOperandAndSetNZ : Obligations.LoadsReadTheOperandAndSetNZ := by
  refine ⟨fun b w => ?encodings, fun o i s h => ?lda, fun o i s h => ?ldx, fun o i s h => ?ldy⟩
  case encodings => and_intros <;> rfl
  case lda => exact exec_of_put_setNZ (v := srcValue o) (put := fun m u => { u with a := m }) (exec_lda h)
  case ldx => exact exec_of_put_setNZ (v := srcValue o) (put := fun m u => { u with x := m }) (exec_ldx h)
  case ldy => exact exec_of_put_setNZ (v := srcValue o) (put := fun m u => { u with y := m }) (exec_ldy h)

/-- Settles O15: the three stores differ in the register they write; each encoding is its opcode and its operand
bytes. -/
theorem storesWriteOneByteAtTheEffectiveAddress : Obligations.StoresWriteOneByteAtTheEffectiveAddress := by
  refine ⟨fun b w => ?encodings, fun m i s hinv h => ?sta, fun m i s hinv h => ?stx, fun m i s hinv h => ?sty⟩
  case encodings => and_intros <;> rfl
  case sta => exact exec_of_write_effAddr hinv (exec_sta h)
  case stx => exact exec_of_write_effAddr hinv (exec_stx h)
  case sty => exact exec_of_write_effAddr hinv (exec_sty h)

end Sys2Proof.Proofs
end

section
/-! Proofs of the family 41_register_transfer.md: the six transfers between registers (O16). -/

namespace Sys2Proof.Proofs

open Sys2Proof.Machine

/-- Settles O16: the five transfers with flags put their source register into another and run SetNZ on it, as a load does
with its operand; TXS moves X to S and runs no SetNZ. -/
theorem transfersCopyTheRegister : Obligations.TransfersCopyTheRegister := by
  refine ⟨?encodings, fun s => ⟨?tax, ?tay, ?txa, ?tya, ?tsx, ?txs⟩⟩
  case encodings => and_intros <;> rfl
  case tax => exact exec_of_put_setNZ (len := 1) (v := State.a) (put := fun r u => { u with x := r }) ⟨rfl, rfl⟩
  case tay => exact exec_of_put_setNZ (len := 1) (v := State.a) (put := fun r u => { u with y := r }) ⟨rfl, rfl⟩
  case txa => exact exec_of_put_setNZ (len := 1) (v := State.x) (put := fun r u => { u with a := r }) ⟨rfl, rfl⟩
  case tya => exact exec_of_put_setNZ (len := 1) (v := State.y) (put := fun r u => { u with a := r }) ⟨rfl, rfl⟩
  case tsx => exact exec_of_put_setNZ (len := 1) (v := State.sp) (put := fun r u => { u with x := r }) ⟨rfl, rfl⟩
  case txs =>
    rw [State.pastInstr_eq_advance]
    rfl

end Sys2Proof.Proofs
end

section
/-! Proofs of the family 42_add_subtract.md: the binary adder (O17), packed BCD (O18), every form of ADC (O19) and SBC
(O20), and the reference decimal algorithm on valid operands (O21). -/

namespace Sys2Proof.Machine

variable {s : State} {i : Instr} {o : Src} {a b m : Byte} {c : Bool}

/- The sign of a byte: its bit 7, which makes its two's-complement number 256 less. -/

theorem byte_getLsbD_seven (b : Byte) : b.getLsbD 7 = decide (128 ≤ b.toNat) :=
  (BitVec.msb_eq_getLsbD_last b).symm.trans (BitVec.msb_eq_decide b)

theorem byte_toInt_eq_ite (b : Byte) : b.toInt = if 128 ≤ b.toNat then (b.toNat : Int) - 256 else b.toNat := by
  rw [BitVec.toInt_eq_msb_cond, BitVec.msb_eq_decide]
  simp

/- The binary adder (R122). -/

theorem addBin_a_toNat (a m : Byte) (c : Bool) : (addBin a m c).a.toNat = (a.toNat + m.toNat + bit c) % 256 :=
  BitVec.toNat_ofNat _ _

/-- V is set where both operands have one sign and the result has the other. -/
theorem addBin_v_iff_signs : (addBin a m c).v = true ↔
    (128 ≤ a.toNat ↔ 128 ≤ m.toNat) ∧ ¬ (128 ≤ a.toNat ↔ 128 ≤ (addBin a m c).a.toNat) := by
  change ((a ^^^ (addBin a m c).a) &&& (m ^^^ (addBin a m c).a)).getLsbD 7 = true ↔ _
  rw [BitVec.getLsbD_and, BitVec.getLsbD_xor, BitVec.getLsbD_xor]
  simp only [byte_getLsbD_seven, Bool.and_eq_true, bne_iff_ne, ne_eq, decide_eq_decide]
  tauto

/-- A sum of two bytes of one sign that has the other sign has left the range of a signed byte. -/
theorem addBin_v_iff : (addBin a m c).v = true ↔
    a.toInt + m.toInt + bit c < -128 ∨ 127 < a.toInt + m.toInt + bit c := by
  have hbit := bit_le_one c
  have ha := a.isLt
  have hm := m.isLt
  rw [addBin_v_iff_signs, addBin_a_toNat, byte_toInt_eq_ite a, byte_toInt_eq_ite m]
  omega

/-- The adder in numbers: the sum modulo 256, the carry out of bit 7, and the flags of R120. -/
theorem addBin_eq (a m : Byte) (c : Bool) :
    let sum := a.toNat + m.toNat + bit c
    let signed := a.toInt + m.toInt + bit c
    addBin a m c =
      { a := BitVec.ofNat 8 sum, c := decide (256 ≤ sum), z := decide (sum % 256 = 0),
        n := decide (128 ≤ sum % 256), v := decide (signed < -128 ∨ 127 < signed) } := by
  intro sum signed
  rw [AluResult.mk.injEq]
  refine ⟨rfl, rfl, ?zero, ?overflow, ?negative⟩
  case zero => exact decide_eq_decide.2 BitVec.toNat_inj.symm
  case overflow => exact Bool.eq_iff_iff.2 (addBin_v_iff.trans decide_eq_true_iff.symm)
  case negative => exact byte_getLsbD_seven _

/- Subtraction adds the complement of the operand (R121). -/

theorem complement_toNat (m : Byte) : (m ^^^ 0xFF).toNat = 255 - m.toNat :=
  (congrArg BitVec.toNat BitVec.xor_allOnes).trans BitVec.toNat_not

theorem complement_toInt (m : Byte) : (m ^^^ 0xFF).toInt = -1 - m.toInt := by
  have hm := m.isLt
  rw [byte_toInt_eq_ite, byte_toInt_eq_ite, complement_toNat]
  omega

/-- The sum with the complement is 256 more than the difference with borrow. -/
theorem sum_complement (a m : Byte) (c : Bool) :
    ((a.toNat + (m ^^^ 0xFF).toNat + bit c : Nat) : Int) = a.toNat - m.toNat - (1 - (bit c : Int)) + 256 := by
  have hm := m.isLt
  rw [complement_toNat]
  omega

theorem addBin_complement_c_iff : (addBin a (m ^^^ 0xFF) c).c = true ↔
    0 ≤ (a.toNat : Int) - m.toNat - (1 - (bit c : Int)) := by
  have hsum := sum_complement a m c
  rw [addBin_eq, decide_eq_true_iff]
  omega

/-- The adder on the complement, in numbers: the difference modulo 256, no borrow, and the flags of R121. -/
theorem addBin_complement_eq (a m : Byte) (c : Bool) :
    let diff : Int := (a.toNat : Int) - m.toNat - (1 - (bit c : Int))
    let signed : Int := a.toInt - m.toInt - (1 - (bit c : Int))
    addBin a (m ^^^ 0xFF) c =
      { a := BitVec.ofInt 8 diff, c := decide (0 ≤ diff), z := decide (diff % 256 = 0),
        n := decide (128 ≤ diff % 256), v := decide (signed < -128 ∨ 127 < signed) } := by
  intro diff signed
  have hsum : ((a.toNat + (m ^^^ 0xFF).toNat + bit c : Nat) : Int) = diff + 256 := sum_complement a m c
  have hsigned : a.toInt + (m ^^^ 0xFF).toInt + bit c = signed := by
    rw [complement_toInt]
    omega
  rw [addBin_eq, AluResult.mk.injEq, hsigned]
  refine ⟨?acc, ?carry, ?zero, rfl, ?negative⟩
  case acc =>
    apply BitVec.eq_of_toNat_eq
    rw [BitVec.toNat_ofNat, BitVec.toNat_ofInt]
    omega
  case carry => exact decide_eq_decide.2 (by omega)
  case zero => exact decide_eq_decide.2 (by omega)
  case negative => exact decide_eq_decide.2 (by omega)

/- Packed BCD (R125). -/

theorem bcdValid_iff : bcdValid b = true ↔ highNibble b ≤ 9 ∧ lowNibble b ≤ 9 := by
  simp [bcdValid]

theorem bcdValue_le (h : bcdValid b = true) : bcdValue b ≤ 99 := by
  obtain ⟨hhigh, hlow⟩ := bcdValid_iff.1 h
  rw [bcdValue]
  omega

/-- A number whose last decimal digit is `l` packs as `l` over 16 times the rest. -/
theorem toBcd_digits (h : Nat) {l : Nat} (hl : l ≤ 9) : toBcd (10 * h + l) = BitVec.ofNat 8 (16 * h + l) := by
  rw [toBcd]
  congr 1
  omega

theorem toBcd_bcdValue (h : lowNibble b ≤ 9) : toBcd (bcdValue b) = b := by
  rw [bcdValue, toBcd_digits _ h, highNibble, lowNibble, Nat.div_add_mod, BitVec.ofNat_toNat, BitVec.setWidth_eq]

theorem toBcd_toNat {n : Nat} (hn : n ≤ 99) : (toBcd n).toNat = n / 10 * 16 + n % 10 := by
  rw [toBcd, BitVec.toNat_ofNat]
  omega

theorem nibbles_toBcd {n : Nat} (hn : n ≤ 99) : highNibble (toBcd n) = n / 10 ∧ lowNibble (toBcd n) = n % 10 := by
  rw [highNibble, lowNibble, toBcd_toNat hn]
  omega

/- Decimal arithmetic on valid operands (R123, R124). -/

theorem adcValidBcd_of_valid (k : Nat) (c : Bool) (ha : bcdValid a = true) (hm : bcdValid m = true) :
    let t := bcdValue a + bcdValue m + bit c
    (adcValidBcd k a m c).a = toBcd (t % 100) ∧ (adcValidBcd k a m c).c = decide (100 ≤ t) := by
  simp [adcValidBcd, ha, hm]

theorem sbcValidBcd_of_valid (k : Nat) (c : Bool) (ha : bcdValid a = true) (hm : bcdValid m = true) :
    let t : Int := (bcdValue a : Int) - bcdValue m - (1 - (bit c : Int))
    (sbcValidBcd k a m c).a = toBcd (t % 100).toNat ∧ (sbcValidBcd k a m c).c = decide (0 ≤ t) := by
  intro t
  have ha99 := bcdValue_le ha
  have hm99 := bcdValue_le hm
  have hbit := bit_le_one c
  have hdef : sbcValidBcd k a m c =
      if 0 ≤ t then { aluAny k with a := toBcd t.toNat, c := true }
      else { aluAny k with a := toBcd (t + 100).toNat, c := false } := by
    rw [sbcValidBcd, if_pos (by rw [ha, hm]; rfl)]
  rw [hdef]
  by_cases h : 0 ≤ t
  · have hmod : t % 100 = t := by omega
    rw [if_pos h, hmod]
    exact ⟨rfl, (decide_eq_true h).symm⟩
  · have hmod : t % 100 = t + 100 := by omega
    rw [if_neg h, hmod]
    exact ⟨rfl, (decide_eq_false h).symm⟩

theorem byte_toNat_eq_nibbles (b : Byte) : b.toNat = 16 * highNibble b + lowNibble b := (Nat.div_add_mod _ _).symm

/- The reference algorithm (U3) goes digit by digit, each corrected by 6 on a carry or borrow: the correction leaves a
decimal digit and passes the carry or borrow on to the next one. -/

theorem add_low_correction {l : Nat} (hl : l ≤ 19) :
    (if 10 ≤ l then (l + 6) % 16 + 16 else l) = 16 * (l / 10) + l % 10 := by
  split <;> omega

theorem add_high_correction {h l : Nat} (hh : h ≤ 19) (hl : l ≤ 9) :
    (if 160 ≤ 16 * h + l then 16 * h + l + 96 else 16 * h + l) = 256 * (h / 10) + (16 * (h % 10) + l) := by
  split <;> omega

theorem sub_low_correction {l : Int} (hl : -10 ≤ l) (hl' : l ≤ 9) :
    (if l < 0 then (l - 6) % 16 - 16 else l) = 16 * (l / 10) + l % 10 := by
  split <;> omega

theorem sub_high_correction {h l : Int} (hh : -10 ≤ h) (hh' : h ≤ 9) (hl : 0 ≤ l) (hl' : l ≤ 9) :
    (if 16 * h + l < 0 then 16 * h + l - 96 else 16 * h + l) = 256 * (h / 10) + (16 * (h % 10) + l) := by
  split <;> omega

theorem adcNmos_eq_adcValidBcd (k : Nat) (c : Bool) (ha : bcdValid a = true) (hm : bcdValid m = true) :
    (adcNmos a m c).a = (adcValidBcd k a m c).a ∧ (adcNmos a m c).c = (adcValidBcd k a m c).c := by
  obtain ⟨haHigh, haLow⟩ := bcdValid_iff.1 ha
  obtain ⟨hmHigh, hmLow⟩ := bcdValid_iff.1 hm
  have hbit := bit_le_one c
  obtain ⟨hA, hC⟩ := adcValidBcd_of_valid k c ha hm
  simp only [adcNmos]
  generalize hlow : lowNibble a + lowNibble m + bit c = low
  generalize hh : highNibble a + highNibble m + low / 10 = h
  have ht : bcdValue a + bcdValue m + bit c = 10 * h + low % 10 := by
    rw [bcdValue, bcdValue]
    omega
  have hmod : (10 * h + low % 10) % 100 = 10 * (h % 10) + low % 10 := by omega
  have hsum : highNibble a * 16 + highNibble m * 16 + (16 * (low / 10) + low % 10) = 16 * h + low % 10 := by omega
  have hdigit : low % 10 ≤ 9 := by omega
  rw [hA, hC, ht, hmod, toBcd_digits _ hdigit, add_low_correction (by omega), hsum,
    add_high_correction (by omega) hdigit]
  constructor
  · apply BitVec.eq_of_toNat_eq
    rw [BitVec.toNat_ofNat, BitVec.toNat_ofNat, Nat.mul_add_mod]
  · exact decide_eq_decide.2 (by omega)

theorem sbcNmos_a_eq_sbcValidBcd (k : Nat) (c : Bool) (ha : bcdValid a = true) (hm : bcdValid m = true) :
    (sbcNmos a m c).a = (sbcValidBcd k a m c).a := by
  obtain ⟨haHigh, haLow⟩ := bcdValid_iff.1 ha
  obtain ⟨hmHigh, hmLow⟩ := bcdValid_iff.1 hm
  have hbit := bit_le_one c
  obtain ⟨hA, -⟩ := sbcValidBcd_of_valid k c ha hm
  simp only [sbcNmos]
  generalize hlow : (lowNibble a : Int) - lowNibble m + bit c - 1 = low
  generalize hh : (highNibble a : Int) - highNibble m + low / 10 = h
  have ht : (bcdValue a : Int) - bcdValue m - (1 - (bit c : Int)) = 10 * h + low % 10 := by
    rw [bcdValue, bcdValue]
    omega
  have hmod : ((10 * h + low % 10) % 100).toNat = 10 * (h % 10).toNat + (low % 10).toNat := by omega
  have hdiff : (highNibble a * 16 : Int) - (highNibble m * 16 : Int) + (16 * (low / 10) + low % 10) =
      16 * h + low % 10 := by omega
  rw [hA, ht, hmod, toBcd_digits _ (by omega), sub_low_correction (by omega) (by omega), hdiff,
    sub_high_correction (by omega) (by omega) (by omega) (by omega)]
  apply BitVec.eq_of_toNat_eq
  rw [BitVec.toNat_ofNat, BitVec.toNat_ofInt]
  omega

/-- The binary no-borrow and the decimal one compare the same digits in the same order. -/
theorem sbcNmos_c_eq_sbcValidBcd (k : Nat) (c : Bool) (ha : bcdValid a = true) (hm : bcdValid m = true) :
    (sbcNmos a m c).c = (sbcValidBcd k a m c).c := by
  obtain ⟨-, haLow⟩ := bcdValid_iff.1 ha
  obtain ⟨-, hmLow⟩ := bcdValid_iff.1 hm
  have hbit := bit_le_one c
  obtain ⟨-, hC⟩ := sbcValidBcd_of_valid k c ha hm
  have hbinary : (sbcNmos a m c).c = (addBin a (m ^^^ 0xFF) c).c := rfl
  rw [hbinary, hC, Bool.eq_iff_iff, decide_eq_true_iff, addBin_complement_c_iff, byte_toNat_eq_nibbles,
    byte_toNat_eq_nibbles, bcdValue, bcdValue]
  omega

/- What ADC and SBC write, whatever the addressing mode, and by which arithmetic (R120, R121). -/

theorem exec_adc_eq_setAlu (h : assemble .adc o.operand = some i) : exec i s =
    .next ((s.pastInstr i.length).setAlu (adcResult (s.pastInstr i.length) (srcValue o (s.pastInstr i.length)))) := by
  obtain ⟨hexec, hlen⟩ := exec_adc (s := s) h
  rw [hexec, opAdc_eq, hlen]

theorem exec_sbc_eq_setAlu (h : assemble .sbc o.operand = some i) : exec i s =
    .next ((s.pastInstr i.length).setAlu (sbcResult (s.pastInstr i.length) (srcValue o (s.pastInstr i.length)))) := by
  obtain ⟨hexec, hlen⟩ := exec_sbc (s := s) h
  rw [hexec, opSbc_eq, hlen]

theorem adcResult_binary (hd : s.d = false) (m : Byte) : adcResult s m = addBin s.a m s.c := by
  simp only [adcResult, hd, Bool.false_eq_true, if_false]

theorem sbcResult_binary (hd : s.d = false) (m : Byte) : sbcResult s m = addBin s.a (m ^^^ 0xFF) s.c := by
  simp only [sbcResult, hd, Bool.false_eq_true, if_false]

theorem adcResult_validBcdOnly (hd : s.d = true) (hcfg : s.cfg.decimalModel = .validBcdOnly) (m : Byte) :
    adcResult s m = adcValidBcd s.draws s.a m s.c := by
  simp only [adcResult, hd, hcfg, if_true]

theorem sbcResult_validBcdOnly (hd : s.d = true) (hcfg : s.cfg.decimalModel = .validBcdOnly) (m : Byte) :
    sbcResult s m = sbcValidBcd s.draws s.a m s.c := by
  simp only [sbcResult, hd, hcfg, if_true]

end Sys2Proof.Machine

namespace Sys2Proof.Proofs

open Sys2Proof.Machine

/-- Settles O17: the sum as a natural number, the overflow by signs, and subtraction as the sum with the complement. -/
theorem binaryAdderIsExact : Obligations.BinaryAdderIsExact := by
  refine ⟨fun a m c => ⟨addBin_a_toNat a m c, decide_eq_true_iff, rfl, ?overflow⟩,
    fun a m c => addBin_complement_c_iff⟩
  case overflow =>
    rw [addBin_v_iff]
    omega

/-- Settles O18, by the two digits of a byte. -/
theorem bcdHelpersAreInverse : Obligations.BcdHelpersAreInverse := by
  refine ⟨fun b => ⟨bcdValid_iff, rfl, fun h => ⟨bcdValue_le h, toBcd_bcdValue (bcdValid_iff.1 h).2⟩⟩,
    fun n hn => ?_⟩
  obtain ⟨hhigh, hlow⟩ := nibbles_toBcd hn
  refine ⟨toBcd_toNat hn, bcdValid_iff.2 ?_, ?_⟩
  · omega
  · rw [bcdValue, hhigh, hlow, Nat.div_add_mod]

/-- Settles O19: every form writes one result over the state past the instruction (R120): with D = 0 the adder's in
numbers, with D = 1 the one that R123 gives on valid operands. -/
theorem adcAddsWithCarry : Obligations.AdcAddsWithCarry := by
  refine ⟨fun b w => ?encodings, fun o i s h => ?forms⟩
  case encodings => and_intros <;> rfl
  case forms =>
    intro u m sum signed tens
    have hexec : exec i s = .next (u.setAlu (adcResult u m)) := exec_adc_eq_setAlu h
    refine ⟨fun hd => ?binary, fun hd hcfg => ?decimal⟩
    case binary =>
      rw [hexec, adcResult_binary (s := u) hd, addBin_eq]
      rfl
    case decimal =>
      rw [adcResult_validBcdOnly (s := u) hd hcfg] at hexec
      exact ⟨_, hexec, rfl, adcValidBcd_of_valid u.draws s.c⟩

/-- Settles O20: as `adcAddsWithCarry`, with the adder on the complement of the operand (R121) and the rule R124. -/
theorem sbcSubtractsWithBorrow : Obligations.SbcSubtractsWithBorrow := by
  refine ⟨fun b w => ?encodings, fun o i s h => ?forms⟩
  case encodings => and_intros <;> rfl
  case forms =>
    intro u m diff signed tens
    have hexec : exec i s = .next (u.setAlu (sbcResult u m)) := exec_sbc_eq_setAlu h
    refine ⟨fun hd => ?binary, fun hd hcfg => ?decimal⟩
    case binary =>
      rw [hexec, sbcResult_binary (s := u) hd, addBin_complement_eq]
      rfl
    case decimal =>
      rw [sbcResult_validBcdOnly (s := u) hd hcfg] at hexec
      exact ⟨_, hexec, rfl, sbcValidBcd_of_valid u.draws s.c⟩

/-- Settles O21: both sides hold the same two decimal digits and the same carry. -/
theorem nmosDecimalAgreesOnValidBcd : Obligations.NmosDecimalAgreesOnValidBcd := by
  intro k a m c ha hm
  obtain ⟨hA, hC⟩ := adcNmos_eq_adcValidBcd k c ha hm
  exact ⟨hA, hC, sbcNmos_a_eq_sbcValidBcd k c ha hm, sbcNmos_c_eq_sbcValidBcd k c ha hm⟩

end Sys2Proof.Proofs
end

section
/-! Proofs of the family 43_increment_decrement.md: INC and DEC on memory (O23), and the four forms on X and Y (O24). -/

namespace Sys2Proof.Machine

variable {s : State} {i : Instr} {len : Nat}

/- One more and one less modulo 256, as the rules count (R57). -/

theorem byte_add_one_toNat (b : Byte) : (b + 1).toNat = (b.toNat + 1) % 256 :=
  BitVec.toNat_add b 1

theorem byte_sub_one_toNat (b : Byte) : (b - 1).toNat = (b.toNat + 255) % 256 := by
  rw [byte_sub_one, BitVec.toNat_ofNat]

/-- `exec_of_put_setNZ` where the byte is known as the number `r`. -/
theorem exec_of_put_setNZ_toNat {v : State → Byte} {put : Byte → State → State} {r : Nat}
    (hr : (v (s.pastInstr i.length)).toNat = r)
    (h : exec i s = .next ((put (v (s.advance len)) (s.advance len)).setNZ (v (s.advance len))) ∧ i.length = len) :
    exec i s = .next { put (BitVec.ofNat 8 r) (s.pastInstr i.length) with
      z := decide (r = 0), n := decide (128 ≤ r) } := by
  subst hr
  rw [BitVec.ofNat_toNat, BitVec.setWidth_eq]
  exact exec_of_put_setNZ h

/-- An instruction that stores the byte `v` at its effective address and runs SetNZ on it, where the byte is known as the
number `r`: it is there afterwards if the address is RAM, the flags follow it in every case, and all else is as the state
past the instruction has it (R24, R43, R62). -/
theorem exec_of_write_setNZ_toNat {m : MemMode} {v : State → Byte} {r : Nat} (hinv : s.inv = true)
    (hr : (v (s.pastInstr i.length)).toNat = r)
    (h : exec i s = .next (((s.advance len).write (effAddr m (s.advance len)) (v (s.advance len))).setNZ
      (v (s.advance len))) ∧ i.length = len) :
    ∃ t, exec i s = .next t ∧
      t = { s.pastInstr i.length with mem := t.mem, z := decide (r = 0), n := decide (128 ≤ r) } ∧
      ∀ a : Nat, Memory.read t.mem a =
        if a = (effAddr m (s.pastInstr i.length)).toNat ∧ s.classOf (effAddr m (s.pastInstr i.length)) = .ram
        then BitVec.ofNat 8 r else Memory.read s.mem a := by
  subst hr
  obtain ⟨hwf, -⟩ := s.inv_iff.1 hinv
  obtain ⟨hexec, rfl⟩ := h
  rw [State.pastInstr_eq_advance, BitVec.ofNat_toNat, BitVec.setWidth_eq]
  refine ⟨_, hexec, ?frame, State.write_read (s := s.advance i.length) hwf _ _⟩
  case frame =>
    rw [Proofs.setNZFollowsTheByte, State.write_eq]

end Sys2Proof.Machine

namespace Sys2Proof.Proofs

open Sys2Proof.Machine

/-- Settles O23: DEC and INC differ in the byte they make of the operand, which goes to the effective address and to
SetNZ. -/
theorem incDecMemoryInPlace : Obligations.IncDecMemoryInPlace := by
  refine ⟨fun b w => ?encodings, fun m i s hinv h => ?dec, fun m i s hinv h => ?inc⟩
  case encodings => and_intros <;> rfl
  case dec => exact exec_of_write_setNZ_toNat (v := fun u => memOperand m u - 1) hinv (byte_sub_one_toNat _) (exec_dec h)
  case inc => exact exec_of_write_setNZ_toNat (v := fun u => memOperand m u + 1) hinv (byte_add_one_toNat _) (exec_inc h)

/-- Settles O24: each form puts its register plus or minus 1 back and runs SetNZ on it, as a transfer does with its source
register. -/
theorem incDecIndexRegisters : Obligations.IncDecIndexRegisters := by
  refine ⟨?encodings, fun s => ⟨?dex, ?dey, ?inx, ?iny⟩⟩
  case encodings => and_intros <;> rfl
  case dex =>
    exact exec_of_put_setNZ_toNat (len := 1) (v := fun u => u.x - 1) (put := fun r u => { u with x := r })
      (byte_sub_one_toNat s.x) ⟨rfl, rfl⟩
  case dey =>
    exact exec_of_put_setNZ_toNat (len := 1) (v := fun u => u.y - 1) (put := fun r u => { u with y := r })
      (byte_sub_one_toNat s.y) ⟨rfl, rfl⟩
  case inx =>
    exact exec_of_put_setNZ_toNat (len := 1) (v := fun u => u.x + 1) (put := fun r u => { u with x := r })
      (byte_add_one_toNat s.x) ⟨rfl, rfl⟩
  case iny =>
    exact exec_of_put_setNZ_toNat (len := 1) (v := fun u => u.y + 1) (put := fun r u => { u with y := r })
      (byte_add_one_toNat s.y) ⟨rfl, rfl⟩

end Sys2Proof.Proofs
end

section
/-! Proofs of the family 44_rotate_shift.md: ASL and LSR (O25), ROL and ROR (O26), on A and on memory. -/

namespace Sys2Proof.Machine

variable {s : State} {i : Instr} {len : Nat} {f : Byte → ShiftResult} {r : Nat} {c : Bool}

theorem byte_getLsbD_zero (b : Byte) : b.getLsbD 0 = decide (b.toNat % 2 = 1) :=
  Nat.testBit_zero b.toNat

/- What each shift makes of a byte, as numbers: the result, and the bit shifted out (R140 to R143). The place of the bit a
rotate shifts in is free, so adding it cannot pass 255. -/

theorem aslResult_toNat (x : Byte) :
    (aslResult x).r.toNat = x.toNat * 2 % 256 ∧ (aslResult x).c = decide (128 ≤ x.toNat) := by
  refine ⟨?_, byte_getLsbD_seven x⟩
  rw [aslResult_r, BitVec.toNat_ofNat]

theorem lsrResult_toNat (x : Byte) :
    (lsrResult x).r.toNat = x.toNat / 2 ∧ (lsrResult x).c = decide (x.toNat % 2 = 1) := by
  have hx := x.isLt
  refine ⟨?_, byte_getLsbD_zero x⟩
  rw [lsrResult_r, BitVec.toNat_ofNat]
  omega

theorem rolResult_toNat (c : Bool) (x : Byte) :
    (rolResult c x).r.toNat = x.toNat * 2 % 256 + bit c ∧ (rolResult c x).c = decide (128 ≤ x.toNat) := by
  have hbit := bit_le_one c
  refine ⟨?_, byte_getLsbD_seven x⟩
  rw [rolResult_r, BitVec.toNat_ofNat]
  omega

theorem rorResult_toNat (c : Bool) (x : Byte) :
    (rorResult c x).r.toNat = x.toNat / 2 + 128 * bit c ∧ (rorResult c x).c = decide (x.toNat % 2 = 1) := by
  have hx := x.isLt
  have hbit := bit_le_one c
  refine ⟨?_, byte_getLsbD_zero x⟩
  rw [rorResult_r, BitVec.toNat_ofNat]
  omega

/-- A shift of A is a byte put back in A, with the bit shifted out in C, and SetNZ of that byte (R24, R62, R64). -/
theorem exec_of_shiftPlace_acc (hf : (f s.a).r.toNat = r ∧ (f s.a).c = c)
    (h : exec i s = .next (shiftPlace f .acc (s.advance len)) ∧ i.length = len) :
    exec i s = .next { s.pastInstr i.length with
      a := BitVec.ofNat 8 r, c := c, z := decide (r = 0), n := decide (128 ≤ r) } := by
  obtain ⟨hr, rfl⟩ := hf
  exact exec_of_put_setNZ_toNat (v := fun u => (f u.a).r) (put := fun b u => { u with a := b, c := (f s.a).c }) hr h

/-- A shift of memory: the result is at the effective address if that is RAM, C takes the bit shifted out and Z and N
follow the result in every case, and all else is as the state past the instruction has it (R24, R43, R62). -/
theorem exec_of_shiftPlace_mem {m : MemMode} (hinv : s.inv = true)
    (hf : (f (memOperand m (s.pastInstr i.length))).r.toNat = r ∧ (f (memOperand m (s.pastInstr i.length))).c = c)
    (h : exec i s = .next (shiftPlace f (.mem m) (s.advance len)) ∧ i.length = len) :
    ∃ t, exec i s = .next t ∧
      t = { s.pastInstr i.length with mem := t.mem, c := c, z := decide (r = 0), n := decide (128 ≤ r) } ∧
      ∀ a : Nat, Memory.read t.mem a =
        if a = (effAddr m (s.pastInstr i.length)).toNat ∧ s.classOf (effAddr m (s.pastInstr i.length)) = .ram
        then BitVec.ofNat 8 r else Memory.read s.mem a := by
  obtain ⟨rfl, rfl⟩ := hf
  obtain ⟨hwf, -⟩ := s.inv_iff.1 hinv
  obtain ⟨hexec, rfl⟩ := h
  rw [State.pastInstr_eq_advance, BitVec.ofNat_toNat, BitVec.setWidth_eq]
  refine ⟨_, hexec, ?frame, State.write_read (s := s.advance i.length) hwf _ _⟩
  case frame =>
    rw [shiftPlace, Proofs.setNZFollowsTheByte, placeStore, State.write_eq]
    rfl

end Sys2Proof.Machine

namespace Sys2Proof.Proofs

open Sys2Proof.Machine

/-- Settles O25: ASL and LSR are the shift of a place by `aslResult` and `lsrResult`. -/
theorem shiftsMoveOneBitThroughCarry : Obligations.ShiftsMoveOneBitThroughCarry := by
  refine ⟨fun b w => ?encodings, fun s => ?aslAcc, fun p i s hinv h => ?aslMem, fun s => ?lsrAcc,
    fun p i s hinv h => ?lsrMem⟩
  case encodings => and_intros <;> rfl
  case aslAcc => exact exec_of_shiftPlace_acc (len := 1) (aslResult_toNat s.a) ⟨rfl, rfl⟩
  case aslMem => exact exec_of_shiftPlace_mem hinv (aslResult_toNat _) (exec_asl h)
  case lsrAcc => exact exec_of_shiftPlace_acc (len := 1) (lsrResult_toNat s.a) ⟨rfl, rfl⟩
  case lsrMem => exact exec_of_shiftPlace_mem hinv (lsrResult_toNat _) (exec_lsr h)

/-- Settles O26: ROL and ROR are the shift of a place by `rolResult` and `rorResult`, which take in the C the instruction
starts with. -/
theorem rotatesMoveOneBitThroughCarry : Obligations.RotatesMoveOneBitThroughCarry := by
  refine ⟨fun b w => ?encodings, fun s => ?rolAcc, fun p i s hinv h => ?rolMem, fun s => ?rorAcc,
    fun p i s hinv h => ?rorMem⟩
  case encodings => and_intros <;> rfl
  case rolAcc => exact exec_of_shiftPlace_acc (len := 1) (rolResult_toNat s.c s.a) ⟨rfl, rfl⟩
  case rolMem => exact exec_of_shiftPlace_mem hinv (rolResult_toNat s.c _) (exec_rol h)
  case rorAcc => exact exec_of_shiftPlace_acc (len := 1) (rorResult_toNat s.c s.a) ⟨rfl, rfl⟩
  case rorMem => exact exec_of_shiftPlace_mem hinv (rorResult_toNat s.c _) (exec_ror h)

end Sys2Proof.Proofs
end

section
/-! Proofs of the family 45_logical.md: AND, EOR and ORA, bit by bit (O27). -/

namespace Sys2Proof.Machine

variable {s : State} {i : Instr} {o : Src} {len : Nat} {op : Byte → Byte → Byte} {f : Bool → Bool → Bool}

/-- An instruction that puts `op` of A and its operand back in A and runs SetNZ on it, where `op` is `f` on each bit: the
bits of the new A are known, Z and N follow it, and all else is as the state past the instruction has it (R24, R62). -/
theorem exec_of_bitwise_acc (hop : ∀ (a m : Byte) (k : Nat), (op a m).getLsbD k = f (a.getLsbD k) (m.getLsbD k))
    (h : exec i s = .next (({ s.advance len with a := op s.a (srcValue o (s.advance len)) } : State).setNZ
      (op s.a (srcValue o (s.advance len)))) ∧ i.length = len) :
    ∃ t, exec i s = .next t ∧
      (∀ k : Nat, k < 8 → t.a.getLsbD k = f (s.a.getLsbD k) ((srcValue o (s.pastInstr i.length)).getLsbD k)) ∧
      t = { s.pastInstr i.length with a := t.a, z := decide (t.a.toNat = 0), n := decide (128 ≤ t.a.toNat) } :=
  ⟨_, exec_of_put_setNZ (v := fun u => op s.a (srcValue o u)) (put := fun r u => { u with a := r }) h,
    fun k _ => hop _ _ k, rfl⟩

end Sys2Proof.Machine

namespace Sys2Proof.Proofs

open Sys2Proof.Machine

/-- Settles O27: AND, EOR and ORA are `exec_of_bitwise_acc` with the conjunction, exclusive or and disjunction of bits; each
encoding is its opcode and its operand bytes. -/
theorem logicalOperationsAreBitwise : Obligations.LogicalOperationsAreBitwise := by
  refine ⟨fun b w => ?encodings, fun o i s h => ?and, fun o i s h => ?eor, fun o i s h => ?ora⟩
  case encodings => and_intros <;> rfl
  case and => exact exec_of_bitwise_acc (fun _ _ _ => BitVec.getLsbD_and) (exec_and h)
  case eor => exact exec_of_bitwise_acc (fun _ _ _ => BitVec.getLsbD_xor) (exec_eor h)
  case ora => exact exec_of_bitwise_acc (fun _ _ _ => BitVec.getLsbD_or) (exec_ora h)

end Sys2Proof.Proofs
end

section
/-! Proofs of the family 46_status_flag.md: CLC, CLD, CLI, CLV, SEC, SED and SEI (O28). -/

namespace Sys2Proof.Machine

variable {s : State}

/-- Where R229's delay is not modelled, no I is held back: a state that holds none stays as it is. -/
theorem State.holdPolledI_of_not_delayed (hlat : s.cfg.irqLatency = .none) (hnone : s.polledI = none) (old : Bool) :
    s.holdPolledI old = s := by
  rw [State.holdPolledI, hlat, ← hnone]

/- CLI and SEI under either latency: the new I goes into P, and `holdPolledI` has the old one (R162, R166, R229). -/

theorem exec_cli (s : State) : exec .cli s = .next ({ s.pastInstr 1 with i := false }.holdPolledI s.i) := by
  rw [State.pastInstr_eq_advance]
  rfl

theorem exec_sei (s : State) : exec .sei s = .next ({ s.pastInstr 1 with i := true }.holdPolledI s.i) := by
  rw [State.pastInstr_eq_advance]
  rfl

end Sys2Proof.Machine

namespace Sys2Proof.Proofs

open Sys2Proof.Machine

/-- Settles O28: each writes its flag over the state past the instruction. CLI and SEI would also hold back the old I,
which they do not without the delay of R229. -/
theorem flagInstructionsWriteOneFlag : Obligations.FlagInstructionsWriteOneFlag := by
  refine ⟨?encodings, fun s => ⟨?clc, ?cld, ?clv, ?sec, ?sed, fun hlat => ⟨?cli, ?sei⟩⟩⟩
  case encodings => and_intros <;> rfl
  case cli => rw [exec_cli, State.holdPolledI_of_not_delayed (s := { s.pastInstr 1 with i := false }) hlat rfl]
  case sei => rw [exec_sei, State.holdPolledI_of_not_delayed (s := { s.pastInstr 1 with i := true }) hlat rfl]
  case clc | cld | clv | sec | sed =>
    rw [State.pastInstr_eq_advance]
    rfl

end Sys2Proof.Proofs
end

section
/-! Proofs of the family 47_compare.md: BIT (O30), and CMP, CPX and CPY (O31). -/

namespace Sys2Proof.Machine

variable {s : State} {i : Instr} {o : Src} {len : Nat} {r : Byte}

/- The bits that BIT reads (R170). -/

theorem byte_and_eq_zero_iff (a m : Byte) : a &&& m = 0 ↔ ∀ k : Fin 8, (a.getLsbD k && m.getLsbD k) = false := by
  constructor
  · intro h k
    rw [← BitVec.getLsbD_and, h]
    exact BitVec.getLsbD_zero
  · intro h
    apply BitVec.eq_of_getLsbD_eq
    intro k hk
    rw [BitVec.getLsbD_and, h ⟨k, hk⟩]
    exact BitVec.getLsbD_zero.symm

theorem byte_getLsbD_six (b : Byte) : b.getLsbD 6 = decide (64 ≤ b.toNat % 128) := by
  have hbit : b.getLsbD 6 = decide (b.toNat / 2 ^ 6 % 2 = 1) := Nat.testBit_eq_decide_div_mod_eq
  rw [hbit]
  exact decide_eq_decide.2 (by omega)

theorem State.setBitTest_eq (m : Byte) (s : State) :
    s.setBitTest m =
      { s with z := decide (∀ k : Fin 8, (s.a.getLsbD k && m.getLsbD k) = false), n := decide (128 ≤ m.toNat),
               v := decide (64 ≤ m.toNat % 128) } := by
  rw [State.setBitTest, byte_getLsbD_seven, byte_getLsbD_six, decide_eq_decide.2 (byte_and_eq_zero_iff s.a m)]

/- The compares: the flags of an unsigned difference (R171 to R173). -/

theorem byte_sub_toNat (r m : Byte) : (r - m).toNat = (r.toNat + 256 - m.toNat) % 256 := by
  have hm := m.isLt
  rw [BitVec.toNat_sub]
  omega

theorem byte_sub_eq_zero_iff (r m : Byte) : r - m = 0 ↔ m.toNat = r.toNat := by
  rw [sub_eq_zero, ← BitVec.toNat_inj, eq_comm]

theorem State.setCompare_eq (r m : Byte) (s : State) :
    s.setCompare r m =
      { s with c := decide (m.toNat ≤ r.toNat), z := decide (m.toNat = r.toNat),
               n := decide (128 ≤ (r.toNat + 256 - m.toNat) % 256) } := by
  rw [State.setCompare, State.setNZ, byte_getLsbD_seven, byte_sub_toNat,
    decide_eq_decide.2 (byte_sub_eq_zero_iff r m)]

/-- An instruction that compares `r` with its operand and does nothing else (R62, R171 to R173). -/
theorem exec_of_setCompare
    (h : exec i s = .next ((s.advance len).setCompare r (srcValue o (s.advance len))) ∧ i.length = len) :
    exec i s = .next { s.pastInstr i.length with
      c := decide ((srcValue o (s.pastInstr i.length)).toNat ≤ r.toNat),
      z := decide ((srcValue o (s.pastInstr i.length)).toNat = r.toNat),
      n := decide (128 ≤ (r.toNat + 256 - (srcValue o (s.pastInstr i.length)).toNat) % 256) } := by
  obtain ⟨hexec, rfl⟩ := h
  rw [hexec, State.setCompare_eq, State.pastInstr_eq_advance]

end Sys2Proof.Machine

namespace Sys2Proof.Proofs

open Sys2Proof.Machine

/-- Settles O30: both forms are one bit test of the byte at the effective address. -/
theorem bitTestsMemoryAgainstA : Obligations.BitTestsMemoryAgainstA := by
  refine ⟨fun b w => ⟨rfl, rfl⟩, fun m i s h => ?_⟩
  obtain ⟨hexec, hlen⟩ := exec_bit (s := s) h
  rw [hexec, opBit, State.setBitTest_eq, hlen, State.pastInstr_eq_advance]
  rfl

/-- Settles O31: the three differ in the register they compare; each encoding is its opcode and its operand bytes. -/
theorem comparesAreUnsignedSubtractions : Obligations.ComparesAreUnsignedSubtractions := by
  refine ⟨fun b w => ?encodings, fun o i s h => ?cmp, fun o i s h => ?cpx, fun o i s h => ?cpy⟩
  case encodings => and_intros <;> rfl
  case cmp => exact exec_of_setCompare (exec_cmp h)
  case cpx => exact exec_of_setCompare (exec_cpx h)
  case cpy => exact exec_of_setCompare (exec_cpy h)

end Sys2Proof.Proofs
end

section
/-! Proofs of the family 48_branch_jump_return.md: the eight branches (O32), JMP (O33), JSR (O34), RTS and RTI (O35),
and RTS after JSR (O36). -/

namespace Sys2Proof.Machine

variable {s t : State}

/- Branches (R188). -/

/-- The offset is added as a signed number, modulo 65536 (R73, R188). -/
theorem add_sext16 (w : Word) (b : Byte) : w + 2 + sext16 b = BitVec.ofInt 16 ((w.toNat : Int) + 2 + b.toInt) := by
  rw [BitVec.ofInt_add, BitVec.ofInt_add, BitVec.ofInt_natCast, BitVec.ofNat_toNat, BitVec.setWidth_eq]
  rfl

/-- A branch on the condition `p` goes to its target or falls through, and writes PC alone. -/
theorem branchIf_eq_ite {cond : Bool} {p : Prop} [Decidable p] (hp : cond = true ↔ p) (b : Byte) (s : State) :
    branchIf cond b s =
      if p then { s.pastInstr 2 with pc := BitVec.ofInt 16 ((s.pc.toNat : Int) + 2 + b.toInt) }
      else s.pastInstr 2 := by
  rw [← add_sext16, State.pastInstr_eq_advance]
  exact if_congr hp rfl rfl

/- JMP, and the pointer of its indirect form (R189, R76). -/

theorem exec_jmpAbs (w : Word) (s : State) : exec (.jmpAbs w) s = .next { s.pastInstr 3 with pc := w } := by
  rw [State.pastInstr_eq_advance]
  rfl

theorem exec_jmpInd (w : Word) (s : State) :
    exec (.jmpInd w) s = .next { s.pastInstr 3 with pc := (s.pastInstr 3).read16Page w } := by
  rw [State.pastInstr_eq_advance]
  rfl

/-- The second byte of a pointer stays in the page of the first. -/
theorem word_hi_lo_add_one (w : Word) :
    word (hi w) (lo w + 1) = BitVec.ofNat 16 (w.toNat / 256 * 256 + (w.toNat + 1) % 256) := by
  have hlow : (w.toNat % 256 + 1) % 256 = (w.toNat + 1) % 256 := by omega
  rw [word_eq_ofNat, hi_toNat, byte_add_one_toNat, lo_toNat, hlow]

theorem State.read16Page_toNat {w : Word}
    (hlow : s.StoredAt w) (hhigh : s.StoredAt (BitVec.ofNat 16 (w.toNat / 256 * 256 + (w.toNat + 1) % 256))) :
    (s.read16Page w).toNat =
      (Memory.read s.mem (w.toNat / 256 * 256 + (w.toNat + 1) % 256)).toNat * 256 +
        (Memory.read s.mem w.toNat).toNat := by
  have hw := w.isLt
  have haddr : w.toNat / 256 * 256 + (w.toNat + 1) % 256 < 2 ^ 16 := by omega
  rw [State.read16Page, word_hi_lo_add_one, word_toNat, State.read_stored hlow, State.read_stored hhigh,
    BitVec.toNat_ofNat, Nat.mod_eq_of_lt haddr]

/- The stack where its page is RAM (R262): every push is seen, and every pull gives the stored byte. -/

theorem State.stackCell_zero_toNat (s : State) : (s.stackCell 0).toNat = 0x100 + s.sp.toNat := by
  rw [State.stackCell_toNat, Nat.add_zero, Nat.mod_eq_of_lt s.sp.isLt]

/-- Going round the page leads back to the same cell (R45). -/
theorem State.stackCell_256 (s : State) : s.stackCell 256 = s.stackCell 0 := rfl

theorem State.StackInRam.congr (h : s.StackInRam) (hcfg : t.cfg = s.cfg) : t.StackInRam := fun b =>
  (State.classOf_congr hcfg _).trans (h b)

theorem State.StackInRam.stackCell (h : s.StackInRam) (k : Nat) : s.classOf (s.stackCell k) = .ram := h _

theorem State.StackInRam.push_read (h : s.StackInRam) (hwf : Memory.wf s.mem = true) (v : Byte) (a : Nat) :
    Memory.read (s.push v).mem a = if a = 0x100 + s.sp.toNat then v else Memory.read s.mem a := by
  simp only [State.push_read hwf, h.stackCell, State.stackCell_zero_toNat, and_true]

theorem State.StackInRam.push16_read (h : s.StackInRam) (hwf : Memory.wf s.mem = true) (w : Word) (a : Nat) :
    Memory.read (s.push16 w).mem a =
      if a = 0x100 + s.sp.toNat then hi w
      else if a = 0x100 + (s.sp.toNat + 255) % 256 then lo w
      else Memory.read s.mem a := by
  rw [State.push16_read hwf, State.stackCell_zero_toNat, State.stackCell_toNat]
  simp only [h.stackCell, and_true]

/-- A pulling instruction finds the stored bytes in the cells above S. -/
theorem State.StackInRam.read_pastInstr (h : s.StackInRam) (len : Nat) (access : Access) (k : Nat) :
    (s.pastInstr len).read access (s.stackCell k) = Memory.read s.mem (s.stackCell k).toNat :=
  State.read_stored (s := s.pastInstr len) (.inl (h.stackCell k)) access

/- RTS after JSR: the two cells pulled are the two cells pushed. -/

/-- S two lower and then two higher is S again (R45). -/
theorem byte_add_254_add_2 (b : Byte) : BitVec.ofNat 8 ((BitVec.ofNat 8 (b.toNat + 254)).toNat + 2) = b := by
  bv_omega

/-- RTS after a push of `ret` by a call that went on at `w` resumes one past `ret`, with S as before (R190, R192). -/
theorem exec_rts_push16 (h : s.StackInRam) (hwf : Memory.wf s.mem = true) (ret w : Word) :
    exec .rts { s.push16 ret with pc := w } =
      .next { s with pc := ret + 1, mem := (s.push16 ret).mem, polledI := none, draws := s.draws + 1 } := by
  have ht : ({ s.push16 ret with pc := w } : State).StackInRam := h.congr (by simp)
  obtain ⟨hhi, hlo⟩ := State.push16_read_stackCells hwf ret
  have hcell (k : Nat) : ({ s.push16 ret with pc := w } : State).stackCell k = s.stackCell (k + 254) :=
    s.push16_stackCell ret k
  rw [exec_rts, ht.read_pastInstr, ht.read_pastInstr, hcell, hcell, State.stackCell_256,
    hhi (h.stackCell 0), hlo (h.stackCell 255), word_hi_lo, State.push16_eq_sp_mem]
  simp only [State.pastInstr, byte_add_254_add_2]

end Sys2Proof.Machine

namespace Sys2Proof.Proofs

open Sys2Proof.Machine

/-- Settles O32: the eight branches differ in the flag they test and the value they want. -/
theorem branchesAddTheSignedOffset : Obligations.BranchesAddTheSignedOffset := by
  refine ⟨fun b => ?encodings, fun b s => ⟨?bcc, ?bcs, ?beq, ?bmi, ?bne, ?bpl, ?bvc, ?bvs⟩⟩
  case encodings => and_intros <;> rfl
  case bcc | bne | bpl | bvc => exact congrArg _ (branchIf_eq_ite (Bool.not_eq_true' _).to_iff b s)
  case bcs | beq | bmi | bvs => exact congrArg _ (branchIf_eq_ite Iff.rfl b s)

/-- Settles O33: the indirect target is read by `State.read16Page` in the state past the instruction. -/
theorem jumpsLoadPC : Obligations.JumpsLoadPC := by
  refine ⟨fun w => ⟨rfl, rfl⟩, fun w s => ?_⟩
  intro u second
  refine ⟨?absolute, { u with pc := u.read16Page w }, ?indirect, rfl, fun hlow hhigh => ?target,
    fun hpage => ?samePage⟩
  case absolute => exact exec_jmpAbs w s
  case indirect => exact exec_jmpInd w s
  case target => exact State.read16Page_toNat (s := u) hlow hhigh
  case samePage => omega

/-- Settles O34: JSR is a push of its last byte's address and a jump. -/
theorem jsrPushesItsLastByteAddress : Obligations.JsrPushesItsLastByteAddress := by
  refine ⟨fun w => rfl, fun w s hinv hstack => ⟨_, exec_jsr w s, ?fields, fun a => ?memory⟩⟩
  case fields => rw [State.push16_eq_sp_mem]; rfl
  case memory =>
    obtain ⟨hwf, -⟩ := s.inv_iff.1 hinv
    have hhi : hi (BitVec.ofNat 16 (s.pc.toNat + 2)) = BitVec.ofNat 8 ((s.pc.toNat + 2) % 65536 / 256) := by
      apply BitVec.eq_of_toNat_eq
      rw [hi_toNat, BitVec.toNat_ofNat, BitVec.toNat_ofNat]
      omega
    have hlo : lo (BitVec.ofNat 16 (s.pc.toNat + 2)) = BitVec.ofNat 8 ((s.pc.toNat + 2) % 65536) := by
      apply BitVec.eq_of_toNat_eq
      rw [lo_toNat, BitVec.toNat_ofNat, BitVec.toNat_ofNat]
    rw [← hhi, ← hlo]
    exact State.StackInRam.push16_read (s := s.pastInstr 3) hstack hwf _ a

/-- Settles O35: on a RAM stack the bytes that RTS and RTI pull are the stored ones. -/
theorem returnsPullThePC : Obligations.ReturnsPullThePC := by
  refine ⟨⟨rfl, rfl⟩, fun s hstack => ?_⟩
  intro u cell
  have hcell (k : Nat) : cell k = (Memory.read s.mem (s.stackCell k).toNat).toNat := by
    rw [State.stackCell_toNat]
  simp only [hcell]
  constructor
  · rw [exec_rts, hstack.read_pastInstr, hstack.read_pastInstr, word_add_one]
  · rw [exec_rti, hstack.read_pastInstr, hstack.read_pastInstr, hstack.read_pastInstr, word_eq_ofNat]
    rfl

/-- Settles O36: RTS pulls the address of the JSR's last byte. -/
theorem rtsReturnsPastTheJsr : Obligations.RtsReturnsPastTheJsr := by
  intro w s hinv hstack
  obtain ⟨hwf, -⟩ := s.inv_iff.1 hinv
  have hpc : BitVec.ofNat 16 (s.pc.toNat + 2) + 1 = s.pc + 3 := by bv_omega
  refine ⟨_, exec_jsr w s, ?_⟩
  rw [exec_rts_push16 (s := s.pastInstr 3) hstack hwf, hpc]
  rfl

end Sys2Proof.Proofs
end

section
/-! Proofs of the family 49_stack_machine_control.md: PHA, PHP, PLA and PLP (O37), PLP after PHP (O38), NOP (O39), and
BRK (O41). -/

namespace Sys2Proof.Machine

variable {s : State}

/- PHP and PLP: the image of P goes to the cell it is pulled from (R201, R203). -/

/-- The image with its break bit set, as R201 writes it out. -/
theorem State.pImage_true (s : State) : s.pImage true =
    BitVec.ofNat 8 (bit s.n * 128 + bit s.v * 64 + 48 + bit s.d * 8 + bit s.i * 4 + bit s.z * 2 + bit s.c) := by
  have hbreak (k : Nat) : k + 32 + bit true * 16 = k + 48 := rfl
  rw [State.pImage, hbreak]

/-- S one lower and then one higher is S again (R45). -/
theorem byte_add_255_add_1 (b : Byte) : BitVec.ofNat 8 ((BitVec.ofNat 8 (b.toNat + 255)).toNat + 1) = b := by
  bv_omega

/-- PLP loads the six flags of the byte it pulls, on a RAM stack the stored one, and holds back the old I (R203,
R229). -/
theorem exec_plp_of_stackInRam (h : s.StackInRam) : exec .plp s =
    .next (({ s.pastInstr 1 with sp := BitVec.ofNat 8 (s.sp.toNat + 1) }.setP
      (Memory.read s.mem (s.stackCell 1).toNat)).holdPolledI s.i) := by
  rw [exec_plp, h.read_pastInstr]

/-- PLP after a push of an image of P loads the flags the image was made of, with S as before. -/
theorem exec_plp_push_pImage (h : s.StackInRam) (hwf : Memory.wf s.mem = true) (b : Bool) :
    exec .plp (s.push (s.pImage b)) =
      .next (({ s.pastInstr 1 with mem := (s.push (s.pImage b)).mem } : State).holdPolledI s.i) := by
  have ht : (s.push (s.pImage b)).StackInRam := h.congr (by simp)
  rw [exec_plp_of_stackInRam ht, State.push_stackCell, State.stackCell_256,
    State.push_read_stackCell hwf _ (h.stackCell 0), State.setP_pImage, State.push_i, State.push_eq_sp_mem]
  simp only [State.pastInstr, byte_add_255_add_1]

/- Trap entry on a RAM stack (R224). -/

/-- The stack addresses by subtraction from S, as R224 writes them. -/
theorem State.stackCell_toNat_sub (s : State) :
    (s.stackCell 255).toNat = 0x100 + (s.sp - 1).toNat ∧ (s.stackCell 254).toNat = 0x100 + (s.sp - 2).toNat := by
  simp only [State.stackCell_toNat]
  constructor <;> bv_omega

theorem State.StackInRam.trapTaken (h : s.StackInRam) (hwf : Memory.wf s.mem = true) (ret vector : Word) (b : Bool) :
    TrapTaken s ret b vector (s.trapEntry ret b vector) := by
  obtain ⟨hcell1, hcell2⟩ := s.stackCell_toNat_sub
  have hsp : BitVec.ofNat 8 (s.sp.toNat + 253) = s.sp - 3 := by bv_omega
  refine ⟨fun a => ?memory, ?fields⟩
  case memory =>
    rw [State.trapEntry_read hwf, State.stackCell_zero_toNat, hcell1, hcell2]
    simp only [h.stackCell, and_true]
  case fields =>
    rw [← hsp]
    exact s.trapEntry_eq_fields ret vector b

end Sys2Proof.Machine

namespace Sys2Proof.Proofs

open Sys2Proof.Machine

/-- Settles O37: a push or a pull of one byte on a RAM stack, in the state past the instruction. -/
theorem stackInstructionsMoveAAndP : Obligations.StackInstructionsMoveAAndP := by
  refine ⟨⟨rfl, rfl, rfl, rfl⟩, fun s hinv hstack => ?_⟩
  intro u top down up
  obtain ⟨hwf, -⟩ := s.inv_iff.1 hinv
  have hpush (v : Byte) := State.StackInRam.push_read (s := u) hstack hwf v
  have htop : Memory.read s.mem (s.stackCell 1).toNat = top := by rw [State.stackCell_toNat]
  refine ⟨⟨_, exec_pha s, State.push_eq_sp_mem _ _, hpush _⟩, ⟨_, exec_php s, State.push_eq_sp_mem _ _, ?php⟩,
    ?pla, fun hlat => ?plp⟩
  case php =>
    rw [← State.pImage_true]
    exact hpush _
  case pla => rw [exec_pla, hstack.read_pastInstr, htop, setNZFollowsTheByte]
  case plp =>
    have hnone := State.holdPolledI_of_not_delayed (s := ({ u with sp := up } : State).setP top) hlat rfl s.i
    rw [exec_plp_of_stackInRam hstack, htop]
    exact congrArg _ hnone

/-- Settles O38: PLP pulls the image that PHP pushed. -/
theorem plpUndoesPhp : Obligations.PlpUndoesPhp := by
  intro s hinv hstack
  obtain ⟨hwf, -⟩ := s.inv_iff.1 hinv
  have hpc : BitVec.ofNat 16 ((BitVec.ofNat 16 (s.pc.toNat + 1)).toNat + 1) = s.pc + 2 := by bv_omega
  refine ⟨_, _, exec_php s, exec_plp_push_pImage (s := s.pastInstr 1) hstack hwf true, ?_⟩
  rw [← hpc]
  rfl

/-- Settles O39: NOP is the move past the instruction and nothing more. -/
theorem nopOnlyAdvances : Obligations.NopOnlyAdvances := by
  refine ⟨rfl, fun s => ?_⟩
  have hnop : exec .nop s = .next (s.pastInstr 1) := by
    rw [State.pastInstr_eq_advance]
    rfl
  exact hnop

/-- Settles O41: BRK is trap entry in the state past its one byte. -/
theorem brkTakesTheTrap : Obligations.BrkTakesTheTrap := by
  refine ⟨rfl, fun s hinv hstack => ?_⟩
  obtain ⟨hwf, -⟩ := s.inv_iff.1 hinv
  exact ⟨_, exec_brk s, State.StackInRam.trapTaken (s := s.pastInstr 1) hstack hwf _ _ _⟩

end Sys2Proof.Proofs
end

section
/-! Proofs of the family 60_exceptions.md: what a boundary recognises (O7, O29), entry and return (O40, O42, O43, O45),
and what a step can fail on (O46, O47). -/

namespace Sys2Proof.Machine

variable {s t : State} {f : State → State} {m : Mnemonic} {mode : Mode}

/- The event at a boundary, case by case (R223, R228). -/

theorem State.pendingEvent_eq_reset (h : s.resetRequest = true) : s.pendingEvent = some .reset := by
  simp [State.pendingEvent, h]

theorem State.pendingEvent_eq_nmi (hreset : s.resetRequest = false) (h : s.nmiPending = true) :
    s.pendingEvent = some .nmi := by
  simp [State.pendingEvent, hreset, h]

theorem State.pendingEvent_eq_ite_irq (hreset : s.resetRequest = false) (hnmi : s.nmiPending = false) :
    s.pendingEvent = if s.irqLine = true ∧ s.polledI.getD s.i = false then some .irq else none := by
  simp [State.pendingEvent, hreset, hnmi, State.irqEnabled]

/-- No IRQ is taken where the I that governs the boundary is 1 (R225). -/
theorem State.pendingEvent_ne_irq (h : s.polledI.getD s.i = true) : s.pendingEvent ≠ some .irq := by
  grind [State.pendingEvent, State.irqEnabled]

/-- Trap entry sets I, so the boundary after it takes no IRQ, unless an older I still governs it (R225, R227). -/
theorem State.trapEntry_pendingEvent_ne_irq (h : s.polledI = none) (ret vector : Word) (b : Bool) :
    (s.trapEntry ret b vector).atBoundary.pendingEvent ≠ some .irq :=
  State.pendingEvent_ne_irq (by simp [h])

/- A step with no event: one instruction, or an unassigned byte (R223, R79). -/

theorem step_eq_exec_of_fetchInstr {i : Instr} (he : s.atBoundary.pendingEvent = none)
    (hf : s.atBoundary.fetchInstr = .ok i) : step s = exec i s.atBoundary := by
  simp only [step, he, hf]

theorem step_eq_unassigned_of_fetchInstr {op : Byte} (he : s.atBoundary.pendingEvent = none)
    (hf : s.atBoundary.fetchInstr = .error op) : step s = s.atBoundary.unassigned op := by
  simp only [step, he, hf]

/-- The fetch gives back as an error only a byte that R79 lists. -/
theorem mem_unassignedOpcodes_of_fetchInstr {op : Byte} (h : s.fetchInstr = .error op) : op ∈ unassignedOpcodes := by
  simp only [State.fetchInstr] at h
  split at h
  next hnone =>
    cases h
    exact Laws.lookupOpcode_eq_none_iff.1 hnone
  all_goals cases h

theorem exec_completes (i : Instr) (s : State) : ∃ t, exec i s = .next t := by
  obtain ⟨f, -, hexec⟩ := exec_operation i
  exact ⟨f s, hexec s⟩

/-- A step completes, or it stops at an unassigned byte under `ILLEGAL_OPCODE` = `fault` (R79, R221). -/
theorem step_completes_or_faults (s : State) : (∃ t, step s = .next t) ∨
    s.cfg.illegalOpcode = .fault ∧ s.atBoundary.pendingEvent = none ∧
      ∃ op ∈ unassignedOpcodes, step s = .fault (.illegalOpcode op s.pc) := by
  cases he : s.atBoundary.pendingEvent with
  | some e => exact .inl ⟨_, step_eq_takeEvent he⟩
  | none =>
    cases hf : s.atBoundary.fetchInstr with
    | ok i =>
      rw [step_eq_exec_of_fetchInstr he hf]
      exact .inl (exec_completes i _)
    | error op =>
      rw [step_eq_unassigned_of_fetchInstr he hf, State.unassigned_eq, State.atBoundary_cfg, State.atBoundary_pc]
      split
      next hfault => exact .inr ⟨hfault, rfl, op, mem_unassignedOpcodes_of_fetchInstr hf, rfl⟩
      next => exact .inl ⟨_, rfl⟩

/- The request on the IRQ line: nothing but the environment moves it (R225, R27). -/

theorem State.takeEvent_irqLine (e : Event) (s : State) : (State.takeEvent e s).irqLine = s.irqLine := by
  cases e with
  | reset => simp [State.takeEvent, State.resetEntry]
  | nmi => simp [State.takeEvent, State.nmiEntry]
  | irq => simp [State.takeEvent, State.irqEntry]

theorem exec_irqLine {i : Instr} (h : exec i s = .next t) : t.irqLine = s.irqLine := by
  obtain ⟨f, hop, rfl⟩ := operation_of_exec h
  obtain ⟨-, hline, -⟩ := (hop.keepsOutside_written s).inputs
  exact hline

theorem State.anyEffect_irqLine (s : State) : s.anyEffect.irqLine = s.irqLine := by
  rw [State.anyEffect_eq]

theorem step_irqLine (h : step s = .next t) : t.irqLine = s.atBoundary.irqLine := by
  rcases step_next_cases h with ⟨e, rfl⟩ | ⟨i, hi⟩ | rfl
  · exact State.takeEvent_irqLine e _
  · exact exec_irqLine hi
  · exact State.anyEffect_irqLine _

/- R229's delay: CLI, SEI and PLP hold back the I they found, every other instruction leaves none (log 15). -/

theorem State.holdPolledI_of_delayed (hlat : s.cfg.irqLatency = .oneInstruction) (old : Bool) :
    s.holdPolledI old = { s with polledI := some old } := by
  rw [State.holdPolledI, hlat]

theorem Operation.polledI_eq_some (h : Operation m f mode) (hm : m ∈ [Mnemonic.cli, .sei, .plp])
    (hlat : s.cfg.irqLatency = .oneInstruction) : (f s).polledI = some s.i := by
  cases h
  case cli | sei | plp => exact congrArg State.polledI (State.holdPolledI_of_delayed hlat s.i)
  all_goals simp at hm

theorem Operation.polledI_eq_none (h : Operation m f mode) (hm : m ∉ [Mnemonic.cli, .sei, .plp]) (s : State) :
    (f s).polledI = none := by
  cases h
  case cli | sei | plp => simp at hm
  case asl p | lsr p | rol p | ror p => exact shiftPlace_polledI _ p (s.advance (placeLength p))
  case bcc b | bcs b | beq b | bmi b | bne b | bpl b | bvc b | bvs b => exact branchIf_polledI _ b s
  case sta | stx | sty => simp [opSta, opStx, opSty]
  case inc | dec => simp [opInc, opDec]
  case pha | php => simp [opPha, opPhp]
  case jsr => simp [opJsr]
  case brk => simp [opBrk]
  all_goals rfl

/- RTI after trap entry: the three cells pulled are the three cells pushed (R230). -/

theorem State.trapEntry_stackCell (ret vector : Word) (b : Bool) (k : Nat) (s : State) :
    (s.trapEntry ret b vector).stackCell k = s.stackCell (k + 253) := by
  have hsp : s.sp - 3 + BitVec.ofNat 8 k = s.sp + BitVec.ofNat 8 (k + 253) := by
    rw [BitVec.ofNat_add]
    bv_omega
  rw [State.stackCell, State.trapEntry_sp, hsp, State.stackCell]

/-- S three lower and then three higher is S again (R45). -/
theorem byte_add_253_add_3 (b : Byte) : BitVec.ofNat 8 ((BitVec.ofNat 8 (b.toNat + 253)).toNat + 3) = b := by
  bv_omega

end Sys2Proof.Machine

namespace Sys2Proof.Proofs

open Sys2Proof.Machine

/-- Settles O46: the operation of the instruction's mnemonic is defined in every state. -/
theorem execAlwaysCompletes : Obligations.ExecAlwaysCompletes :=
  exec_completes

/-- Settles O47: a step that does not complete is the one fault of an unassigned byte. -/
theorem stepFaultsOnlyOnUnassignedOpcodes : Obligations.StepFaultsOnlyOnUnassignedOpcodes := by
  intro s
  rcases step_completes_or_faults s with ⟨t, hstep⟩ | ⟨hfault, hevent, op, hop, hstep⟩
  · rw [hstep]
    exact ⟨nofun, nofun⟩
  · rw [hstep]
    exact ⟨fun f hf => ⟨hfault, hevent, op, hop, (Host.Outcome.fault.inj hf).symm⟩, nofun⟩

/-- Settles O7: the priority is that of `State.pendingEvent`, where without the delay of R229 the I that governs is the
current one. -/
theorem boundaryTakesResetThenNmiThenIrq : Obligations.BoundaryTakesResetThenNmiThenIrq := by
  intro s hinv hlat u
  have hpolled : u.polledI = none := by
    obtain ⟨-, hdelay⟩ := s.inv_iff.1 hinv
    rw [State.atBoundary_polledI]
    exact hdelay.resolve_left (by simp [hlat])
  by_cases hreset : u.resetRequest = true
  · rw [if_pos hreset]
    exact step_eq_takeEvent (State.pendingEvent_eq_reset hreset)
  rw [if_neg hreset]
  by_cases hnmi : u.nmiPending = true
  · rw [if_pos hnmi]
    exact step_eq_takeEvent (State.pendingEvent_eq_nmi (Bool.eq_false_of_not_eq_true hreset) hnmi)
  rw [if_neg hnmi]
  have hevent := State.pendingEvent_eq_ite_irq (Bool.eq_false_of_not_eq_true hreset)
    (Bool.eq_false_of_not_eq_true hnmi)
  rw [hpolled, Option.getD_none] at hevent
  by_cases hirq : u.irqLine = true ∧ u.i = false
  · rw [if_pos hirq]
    exact step_eq_takeEvent (hevent.trans (if_pos hirq))
  rw [if_neg hirq]
  have hnone : u.pendingEvent = none := hevent.trans (if_neg hirq)
  cases hfetch : u.fetchInstr with
  | ok i => exact step_eq_exec_of_fetchInstr hnone hfetch
  | error op =>
    simp only [step_eq_unassigned_of_fetchInstr hnone hfetch]
    split
    next hfault => rw [State.unassigned_eq, State.atBoundary_cfg, if_pos hfault]
    next => rfl

/-- Settles O40: the pushes of trap entry on a RAM stack, and its fields. -/
theorem trapEntrySavesPCAndStatus : Obligations.TrapEntrySavesPCAndStatus := by
  intro s ret vector b hinv hstack
  obtain ⟨hwf, -⟩ := s.inv_iff.1 hinv
  exact hstack.trapTaken hwf ret vector b

/-- Settles O42: an IRQ entry is trap entry, which sets I; nothing in a step clears the line. -/
theorem irqIsTakenOnlyWithIClear : Obligations.IrqIsTakenOnlyWithIClear := by
  intro s hinv hstack hlat u hline hnmi hreset
  obtain ⟨hwf, hdelay⟩ := u.inv_iff.1 (s.atBoundary_inv.trans hinv)
  have hpolled : u.polledI = none := hdelay.resolve_left (by simp [u, hlat])
  have hevent := State.pendingEvent_eq_ite_irq hreset hnmi
  rw [hpolled, Option.getD_none] at hevent
  refine ⟨fun hi => ?clear, fun hi => ⟨?masked, fun t ht => ?line⟩⟩
  case clear =>
    exact ⟨_, step_eq_takeEvent (hevent.trans (if_pos ⟨hline, hi⟩)),
      State.StackInRam.trapTaken (s := u.beginEvent) (hstack.congr (by simp [u])) hwf _ _ _,
      State.trapEntry_pendingEvent_ne_irq rfl _ _ _⟩
  case masked =>
    rw [hevent, if_neg]
    simp [hi]
  case line => rw [step_irqLine ht, hline]

/-- Settles O43: an NMI entry is trap entry with `nmi_pending` cleared, and I is read by no condition on the way. -/
theorem nmiIsTakenWhateverI : Obligations.NmiIsTakenWhateverI := by
  intro s hinv hstack u hnmi hreset
  obtain ⟨hwf, -⟩ := u.inv_iff.1 (s.atBoundary_inv.trans hinv)
  refine ⟨_, step_eq_takeEvent (State.pendingEvent_eq_nmi hreset hnmi), ?taken, ?cleared,
    State.trapEntry_pendingEvent_ne_irq rfl _ _ _, fun hnmi' hreset' => State.pendingEvent_eq_nmi hreset' hnmi'⟩
  case taken =>
    exact State.StackInRam.trapTaken (s := { u.beginEvent with nmiPending := false })
      (hstack.congr (by simp [u])) hwf _ _ _
  case cleared => simp [State.takeEvent, State.nmiEntry]

/-- Settles O45: RTI pulls the image and the address that trap entry pushed. -/
theorem rtiUndoesTrapEntry : Obligations.RtiUndoesTrapEntry := by
  intro s ret vector b hinv hstack
  obtain ⟨hwf, -⟩ := s.inv_iff.1 hinv
  have ht : (s.trapEntry ret b vector).StackInRam := hstack.congr (by simp)
  obtain ⟨hhi, hlo, himage⟩ := State.trapEntry_read_stackCells hwf ret vector b
  rw [exec_rti, ht.read_pastInstr, ht.read_pastInstr, ht.read_pastInstr, State.trapEntry_stackCell,
    State.trapEntry_stackCell, State.trapEntry_stackCell, State.stackCell_256, himage (hstack.stackCell 254),
    hlo (hstack.stackCell 255), hhi (hstack.stackCell 0), State.setP_pImage, word_hi_lo, State.trapEntry_eq_fields]
  simp only [State.pastInstr, byte_add_253_add_3]

/-- Settles O29: at the boundary the I that governs is the one held back, which CLI, SEI and PLP alone leave. -/
theorem delayedInterruptFlagOption : Obligations.DelayedInterruptFlagOption := by
  intro i s hlat u top
  obtain ⟨f, hop, hexec⟩ := exec_operation i
  have hdelayed (hm : i.mnemonic ∈ [Mnemonic.cli, .sei, .plp]) : (f s).polledI = some s.i :=
    hop.polledI_eq_some hm hlat
  have hnone (hm : i.mnemonic ∉ [Mnemonic.cli, .sei, .plp]) : (f s).polledI = none := hop.polledI_eq_none hm s
  have hrun {t : State} (h : exec i s = .next t) : f s = t := Host.Outcome.next.inj ((hexec s).symm.trans h)
  have hheld (v : State) (hcfg : v.cfg = s.cfg) : v.holdPolledI s.i = { v with polledI := some s.i } :=
    State.holdPolledI_of_delayed (by rwa [hcfg]) s.i
  have htop : Memory.read s.mem (s.stackCell 1).toNat = top := by rw [State.stackCell_toNat]
  refine ⟨f s, hexec s, fun hline hreset hnmi => ?boundary, hdelayed, hnone, ?cli, ?sei, ?plp⟩
  case boundary =>
    have hirq : (f s).atBoundary.pendingEvent = some .irq ↔ (f s).polledI.getD (f s).i = false := by
      simp [State.pendingEvent_eq_ite_irq hreset hnmi, hline]
    refine ⟨fun hm => ?_, fun hm => ?_⟩
    · rw [hirq, hdelayed hm, Option.getD_some]
    · rw [hirq, hnone hm, Option.getD_none]
  case cli =>
    rintro rfl
    exact (hrun (exec_cli s)).trans (hheld _ rfl)
  case sei =>
    rintro rfl
    exact (hrun (exec_sei s)).trans (hheld _ rfl)
  case plp =>
    rintro rfl hstack
    rw [hrun (exec_plp_of_stackInRam hstack), htop]
    exact hheld _ rfl

end Sys2Proof.Proofs
end

section
/-! Proofs of the family 70_reset_and_hazards.md: what a reset leaves (O44). -/

namespace Sys2Proof.Machine

variable {s : State}

/-- The registers and flags that a reset does not fix are all that `RESET_STATE` bears on (R260). -/
theorem State.resetRegisters_eq (s : State) :
    s.resetRegisters =
      { s with a := s.resetRegisters.a, x := s.resetRegisters.x, y := s.resetRegisters.y, sp := s.resetRegisters.sp,
               c := s.resetRegisters.c, z := s.resetRegisters.z, d := s.resetRegisters.d, v := s.resetRegisters.v,
               n := s.resetRegisters.n } := by
  unfold State.resetRegisters
  split <;> rfl

theorem State.resetRegisters_of_given {r : ResetValues} (h : s.cfg.resetState = .given r) :
    s.resetRegisters =
      { s with a := r.a, x := r.x, y := r.y, sp := r.sp, c := r.c, z := r.z, d := r.d, v := r.v, n := r.n } := by
  rw [State.resetRegisters, h]

theorem State.resetRegisters_of_keep (h : s.cfg.resetState = .keep) :
    s.resetRegisters = { s with sp := Config.anyByte s.draws .regS } := by
  rw [State.resetRegisters, h]

/-- What a reset fixes, and then what it leaves to `RESET_STATE` (R260). -/
theorem State.resetEntry_eq (s : State) :
    s.resetEntry =
      ({ s.beginEvent with
          i := true, nmiPending := false, pc := s.beginEvent.readVector s.cfg.vecReset } : State).resetRegisters :=
  rfl

end Sys2Proof.Machine

namespace Sys2Proof.Proofs

open Sys2Proof.Machine

/-- Settles O44: the fields that R260 fixes are set before `RESET_STATE` decides on the others. -/
theorem resetLeavesWhatTheSpecGives : Obligations.ResetLeavesWhatTheSpecGives := by
  intro s u hreset
  refine ⟨_, step_eq_takeEvent (State.pendingEvent_eq_reset hreset), ?fields, fun hlow hhigh => ?vector,
    fun r hgiven => ?given, fun hkeep => ?keep⟩
  case fields =>
    rw [State.takeEvent, State.resetEntry_eq, State.resetRegisters_eq]
  case vector =>
    have hread {a : Word} (ha : s.StoredAt a) (k : Access) : u.beginEvent.read k a = Memory.read s.mem a.toNat := by
      rw [State.StoredAt, ← State.atBoundary_classOf] at ha
      rw [← s.atBoundary_mem]
      exact State.read_stored (s := u.beginEvent) ha k
    rw [State.takeEvent, State.resetEntry_eq, State.resetRegisters_pc, State.atBoundary_cfg, State.readVector,
      hread hlow, hread hhigh]
  case given =>
    rw [State.takeEvent, State.resetEntry_eq, State.resetRegisters_of_given (r := r) (by simpa [u] using hgiven)]
    simp
  case keep =>
    rw [State.takeEvent, State.resetEntry_eq, State.resetRegisters_of_keep (by simpa [u] using hkeep)]
    simp

end Sys2Proof.Proofs
end
